-- ==== Sys2Proof/Word.lean ====
section
/-! DEFINITION. The words of the block (00_scope.md rule R6): bytes, 16-bit addresses, the 64-bit cycle count. -/

namespace Sys2Proof

/-- A byte, 8 bits (rule R6, R12). -/
abbrev Byte := BitVec 8

/-- A 16-bit address or program counter (rule R6). -/
abbrev Address := BitVec 16

/-- The value of the cycle counter `CYC`, 64 bits with additions `mod 2^64` (rules R6, R34). -/
abbrev CycleCount := BitVec 64

end Sys2Proof
end

