-- ==== Sys2Proof/Machine/Bits.lean ====
section
/-! DEFINITION. Bit-field, extension and byte-order helpers of 00_scope.md rule R12 and 20_memory.md rule R43. -/

namespace Sys2Proof.Machine

/-- `zext_16(b)`: the byte as a 16-bit value with a zero high byte (rule R12). -/
def zext16 (b : Byte) : Address := b.setWidth 16

/-- `sext_8(b)` reduced to 16 bits: the byte read as a two's-complement number (rule R12). -/
def sext16 (b : Byte) : Address := b.signExtend 16

/-- `(hi << 8) | lo` (rules R12, R43). -/
def wordOf (hi lo : Byte) : Address := (zext16 hi <<< 8) ||| zext16 lo

/-- `w[15:8]` (rule R12). -/
def hiByte (w : Address) : Byte := (w >>> 8).setWidth 8

/-- `w[7:0]` (rule R12). -/
def loByte (w : Address) : Byte := w.setWidth 8

/-- The byte whose bit `k` is `b` and whose other bits are 0: one term of `Pack` (rule R107). -/
def flagBit (b : Bool) (k : Nat) : Byte := if b then 1#8 <<< k else 0#8

end Sys2Proof.Machine
end

