-- ==== Sys2Proof/Syntax.lean ====
section
/-! DEFINITION. Instructions as data: the sixteen addressing modes with their operand bytes, the mnemonics, and `Instr`,
one constructor for each row of spec/opcode_table.json (30_encoding.md rule R64). -/

namespace Sys2Proof

/-- The sixteen addressing modes (rules R61, R98). -/
inductive Mode where
  | imp | acc | imm | zp | zpx | zpy | abs | absx | absy | ind | absindx | zpind | zpindx | zpindy | rel | zprel
  deriving DecidableEq, Repr

/-- The flags of {Z, N} that the generic flag rule updates for an opcode (rules R66, R110). -/
inductive FlagMask where
  | nz | n | none
  deriving DecidableEq, Repr

/-- An operand of a mode that yields an effective address, with its operand bytes (rules R61, R63, R83 to R94). -/
inductive MemOperand where
  /-- `#$nn` (rule R83) -/
  | imm (nn : Byte)
  /-- `$zz` (rule R84) -/
  | zp (zz : Byte)
  /-- `$zz,X` (rule R85) -/
  | zpx (zz : Byte)
  /-- `$zz,Y` (rule R86) -/
  | zpy (zz : Byte)
  /-- `$hhll` (rule R87) -/
  | abs (addr : Address)
  /-- `$hhll,X` (rule R88) -/
  | absx (addr : Address)
  /-- `$hhll,Y` (rule R89) -/
  | absy (addr : Address)
  /-- `($hhll)` (rule R90) -/
  | ind (addr : Address)
  /-- `($hhll,X)` (rule R91) -/
  | absindx (addr : Address)
  /-- `($zz)` (rule R92) -/
  | zpind (zz : Byte)
  /-- `($zz,X)` (rule R93) -/
  | zpindx (zz : Byte)
  /-- `($zz),Y` (rule R94) -/
  | zpindy (zz : Byte)
  deriving DecidableEq, Repr

/-- The operand of an instruction in each of the sixteen modes (rule R61). -/
inductive Operand where
  /-- implied: no operand byte (rule R81) -/
  | imp
  /-- the accumulator (rule R82) -/
  | acc
  /-- a mode with an effective address (rules R83 to R94) -/
  | mem (m : MemOperand)
  /-- a signed branch offset (rule R95) -/
  | rel (off : Byte)
  /-- a zero-page address and a signed branch offset (rule R96) -/
  | zprel (zz off : Byte)
  deriving DecidableEq, Repr

/-- The mnemonics of rule R64; the bit number of `RMBn`, `SMBn`, `BBRn`, `BBSn` is an argument. -/
inductive Mnemonic where
  | adc | and | asl | bcc | bcs | beq | bit | bmi | bne | bpl | bra | brk | bvc | bvs
  | clc | cld | cli | clv | cmp | cpx | cpy | dec | dex | dey | eor | inc | inx | iny
  | jmp | jsr | lda | ldx | ldy | lsr | nop | ora | pha | php | phx | phy | pla | plp | plx | ply
  | rol | ror | rti | rts | sbc | sec | sed | sei | sta | stx | sty | stz
  | tax | tay | trb | tsb | tsx | txa | txs | tya
  /-- `RMBn` (rule R194) -/
  | rmb (n : Fin 8)
  /-- `SMBn` (rule R195) -/
  | smb (n : Fin 8)
  /-- `BBRn` (rule R213) -/
  | bbr (n : Fin 8)
  /-- `BBSn` (rule R214) -/
  | bbs (n : Fin 8)
  /-- the absent mnemonic of an undefined opcode (rule R68) -/
  | undefined
  deriving DecidableEq, Repr

/-- One entry of the decoder table (rules R60, R64). -/
structure Descriptor where
  /-- `MNEM[op]` -/
  mnemonic : Mnemonic
  /-- `MODE[op]`; an undefined opcode has none (rule R98, D23) -/
  mode : Option Mode
  /-- `LEN[op]` -/
  length : Nat
  /-- `BASE_CYCLES[op]` -/
  baseCycles : Nat
  /-- `FLAGMASK[op]` -/
  flagMask : FlagMask
  deriving DecidableEq, Repr

/-- The instructions: one constructor per row of the opcode table (first the rows with operand fields, then the
others, each in the table's order), with the operand fields of rule R63 (an absolute address already assembled from its
two bytes). The padding byte of `BRK` is never read and is no field (rule R236). -/
inductive Instr where
  /-- `0x01` `ORA ($zz,X)` (rule R163) -/
  | oraZpindx (zz : Byte)
  /-- `0x04` `TSB $zz` (rule R169) -/
  | tsbZp (zz : Byte)
  /-- `0x05` `ORA $zz` (rule R163) -/
  | oraZp (zz : Byte)
  /-- `0x06` `ASL $zz` (rule R190) -/
  | aslZp (zz : Byte)
  /-- `0x07` `RMB0 $zz` (rule R194) -/
  | rmb0 (zz : Byte)
  /-- `0x09` `ORA #$nn` (rule R163) -/
  | oraImm (nn : Byte)
  /-- `0x0C` `TSB $hhll` (rule R169) -/
  | tsbAbs (addr : Address)
  /-- `0x0D` `ORA $hhll` (rule R163) -/
  | oraAbs (addr : Address)
  /-- `0x0E` `ASL $hhll` (rule R190) -/
  | aslAbs (addr : Address)
  /-- `0x0F` `BBR0 $zz,label` (rule R213) -/
  | bbr0 (zz : Byte) (off : Byte)
  /-- `0x10` `BPL label` (rule R204) -/
  | bpl (off : Byte)
  /-- `0x11` `ORA ($zz),Y` (rule R163) -/
  | oraZpindy (zz : Byte)
  /-- `0x12` `ORA ($zz)` (rule R163) -/
  | oraZpind (zz : Byte)
  /-- `0x14` `TRB $zz` (rule R170) -/
  | trbZp (zz : Byte)
  /-- `0x15` `ORA $zz,X` (rule R163) -/
  | oraZpx (zz : Byte)
  /-- `0x16` `ASL $zz,X` (rule R190) -/
  | aslZpx (zz : Byte)
  /-- `0x17` `RMB1 $zz` (rule R194) -/
  | rmb1 (zz : Byte)
  /-- `0x19` `ORA $hhll,Y` (rule R163) -/
  | oraAbsy (addr : Address)
  /-- `0x1C` `TRB $hhll` (rule R170) -/
  | trbAbs (addr : Address)
  /-- `0x1D` `ORA $hhll,X` (rule R163) -/
  | oraAbsx (addr : Address)
  /-- `0x1E` `ASL $hhll,X` (rule R190) -/
  | aslAbsx (addr : Address)
  /-- `0x1F` `BBR1 $zz,label` (rule R213) -/
  | bbr1 (zz : Byte) (off : Byte)
  /-- `0x20` `JSR $hhll` (rule R201) -/
  | jsrAbs (addr : Address)
  /-- `0x21` `AND ($zz,X)` (rule R162) -/
  | andZpindx (zz : Byte)
  /-- `0x24` `BIT $zz` (rule R168) -/
  | bitZp (zz : Byte)
  /-- `0x25` `AND $zz` (rule R162) -/
  | andZp (zz : Byte)
  /-- `0x26` `ROL $zz` (rule R192) -/
  | rolZp (zz : Byte)
  /-- `0x27` `RMB2 $zz` (rule R194) -/
  | rmb2 (zz : Byte)
  /-- `0x29` `AND #$nn` (rule R162) -/
  | andImm (nn : Byte)
  /-- `0x2C` `BIT $hhll` (rule R168) -/
  | bitAbs (addr : Address)
  /-- `0x2D` `AND $hhll` (rule R162) -/
  | andAbs (addr : Address)
  /-- `0x2E` `ROL $hhll` (rule R192) -/
  | rolAbs (addr : Address)
  /-- `0x2F` `BBR2 $zz,label` (rule R213) -/
  | bbr2 (zz : Byte) (off : Byte)
  /-- `0x30` `BMI label` (rule R205) -/
  | bmi (off : Byte)
  /-- `0x31` `AND ($zz),Y` (rule R162) -/
  | andZpindy (zz : Byte)
  /-- `0x32` `AND ($zz)` (rule R162) -/
  | andZpind (zz : Byte)
  /-- `0x34` `BIT $zz,X` (rule R168) -/
  | bitZpx (zz : Byte)
  /-- `0x35` `AND $zz,X` (rule R162) -/
  | andZpx (zz : Byte)
  /-- `0x36` `ROL $zz,X` (rule R192) -/
  | rolZpx (zz : Byte)
  /-- `0x37` `RMB3 $zz` (rule R194) -/
  | rmb3 (zz : Byte)
  /-- `0x39` `AND $hhll,Y` (rule R162) -/
  | andAbsy (addr : Address)
  /-- `0x3C` `BIT $hhll,X` (rule R168) -/
  | bitAbsx (addr : Address)
  /-- `0x3D` `AND $hhll,X` (rule R162) -/
  | andAbsx (addr : Address)
  /-- `0x3E` `ROL $hhll,X` (rule R192) -/
  | rolAbsx (addr : Address)
  /-- `0x3F` `BBR3 $zz,label` (rule R213) -/
  | bbr3 (zz : Byte) (off : Byte)
  /-- `0x41` `EOR ($zz,X)` (rule R164) -/
  | eorZpindx (zz : Byte)
  /-- `0x45` `EOR $zz` (rule R164) -/
  | eorZp (zz : Byte)
  /-- `0x46` `LSR $zz` (rule R191) -/
  | lsrZp (zz : Byte)
  /-- `0x47` `RMB4 $zz` (rule R194) -/
  | rmb4 (zz : Byte)
  /-- `0x49` `EOR #$nn` (rule R164) -/
  | eorImm (nn : Byte)
  /-- `0x4C` `JMP $hhll` (rule R200) -/
  | jmpAbs (addr : Address)
  /-- `0x4D` `EOR $hhll` (rule R164) -/
  | eorAbs (addr : Address)
  /-- `0x4E` `LSR $hhll` (rule R191) -/
  | lsrAbs (addr : Address)
  /-- `0x4F` `BBR4 $zz,label` (rule R213) -/
  | bbr4 (zz : Byte) (off : Byte)
  /-- `0x50` `BVC label` (rule R206) -/
  | bvc (off : Byte)
  /-- `0x51` `EOR ($zz),Y` (rule R164) -/
  | eorZpindy (zz : Byte)
  /-- `0x52` `EOR ($zz)` (rule R164) -/
  | eorZpind (zz : Byte)
  /-- `0x55` `EOR $zz,X` (rule R164) -/
  | eorZpx (zz : Byte)
  /-- `0x56` `LSR $zz,X` (rule R191) -/
  | lsrZpx (zz : Byte)
  /-- `0x57` `RMB5 $zz` (rule R194) -/
  | rmb5 (zz : Byte)
  /-- `0x59` `EOR $hhll,Y` (rule R164) -/
  | eorAbsy (addr : Address)
  /-- `0x5D` `EOR $hhll,X` (rule R164) -/
  | eorAbsx (addr : Address)
  /-- `0x5E` `LSR $hhll,X` (rule R191) -/
  | lsrAbsx (addr : Address)
  /-- `0x5F` `BBR5 $zz,label` (rule R213) -/
  | bbr5 (zz : Byte) (off : Byte)
  /-- `0x61` `ADC ($zz,X)` (rule R160) -/
  | adcZpindx (zz : Byte)
  /-- `0x64` `STZ $zz` (rule R146) -/
  | stzZp (zz : Byte)
  /-- `0x65` `ADC $zz` (rule R160) -/
  | adcZp (zz : Byte)
  /-- `0x66` `ROR $zz` (rule R193) -/
  | rorZp (zz : Byte)
  /-- `0x67` `RMB6 $zz` (rule R194) -/
  | rmb6 (zz : Byte)
  /-- `0x69` `ADC #$nn` (rule R160) -/
  | adcImm (nn : Byte)
  /-- `0x6C` `JMP ($hhll)` (rule R200) -/
  | jmpInd (addr : Address)
  /-- `0x6D` `ADC $hhll` (rule R160) -/
  | adcAbs (addr : Address)
  /-- `0x6E` `ROR $hhll` (rule R193) -/
  | rorAbs (addr : Address)
  /-- `0x6F` `BBR6 $zz,label` (rule R213) -/
  | bbr6 (zz : Byte) (off : Byte)
  /-- `0x70` `BVS label` (rule R207) -/
  | bvs (off : Byte)
  /-- `0x71` `ADC ($zz),Y` (rule R160) -/
  | adcZpindy (zz : Byte)
  /-- `0x72` `ADC ($zz)` (rule R160) -/
  | adcZpind (zz : Byte)
  /-- `0x74` `STZ $zz,X` (rule R146) -/
  | stzZpx (zz : Byte)
  /-- `0x75` `ADC $zz,X` (rule R160) -/
  | adcZpx (zz : Byte)
  /-- `0x76` `ROR $zz,X` (rule R193) -/
  | rorZpx (zz : Byte)
  /-- `0x77` `RMB7 $zz` (rule R194) -/
  | rmb7 (zz : Byte)
  /-- `0x79` `ADC $hhll,Y` (rule R160) -/
  | adcAbsy (addr : Address)
  /-- `0x7C` `JMP ($hhll,X)` (rule R200) -/
  | jmpAbsindx (addr : Address)
  /-- `0x7D` `ADC $hhll,X` (rule R160) -/
  | adcAbsx (addr : Address)
  /-- `0x7E` `ROR $hhll,X` (rule R193) -/
  | rorAbsx (addr : Address)
  /-- `0x7F` `BBR7 $zz,label` (rule R213) -/
  | bbr7 (zz : Byte) (off : Byte)
  /-- `0x80` `BRA label` (rule R212) -/
  | bra (off : Byte)
  /-- `0x81` `STA ($zz,X)` (rule R143) -/
  | staZpindx (zz : Byte)
  /-- `0x84` `STY $zz` (rule R145) -/
  | styZp (zz : Byte)
  /-- `0x85` `STA $zz` (rule R143) -/
  | staZp (zz : Byte)
  /-- `0x86` `STX $zz` (rule R144) -/
  | stxZp (zz : Byte)
  /-- `0x87` `SMB0 $zz` (rule R195) -/
  | smb0 (zz : Byte)
  /-- `0x89` `BIT #$nn` (rule R168) -/
  | bitImm (nn : Byte)
  /-- `0x8C` `STY $hhll` (rule R145) -/
  | styAbs (addr : Address)
  /-- `0x8D` `STA $hhll` (rule R143) -/
  | staAbs (addr : Address)
  /-- `0x8E` `STX $hhll` (rule R144) -/
  | stxAbs (addr : Address)
  /-- `0x8F` `BBS0 $zz,label` (rule R214) -/
  | bbs0 (zz : Byte) (off : Byte)
  /-- `0x90` `BCC label` (rule R208) -/
  | bcc (off : Byte)
  /-- `0x91` `STA ($zz),Y` (rule R143) -/
  | staZpindy (zz : Byte)
  /-- `0x92` `STA ($zz)` (rule R143) -/
  | staZpind (zz : Byte)
  /-- `0x94` `STY $zz,X` (rule R145) -/
  | styZpx (zz : Byte)
  /-- `0x95` `STA $zz,X` (rule R143) -/
  | staZpx (zz : Byte)
  /-- `0x96` `STX $zz,Y` (rule R144) -/
  | stxZpy (zz : Byte)
  /-- `0x97` `SMB1 $zz` (rule R195) -/
  | smb1 (zz : Byte)
  /-- `0x99` `STA $hhll,Y` (rule R143) -/
  | staAbsy (addr : Address)
  /-- `0x9C` `STZ $hhll` (rule R146) -/
  | stzAbs (addr : Address)
  /-- `0x9D` `STA $hhll,X` (rule R143) -/
  | staAbsx (addr : Address)
  /-- `0x9E` `STZ $hhll,X` (rule R146) -/
  | stzAbsx (addr : Address)
  /-- `0x9F` `BBS1 $zz,label` (rule R214) -/
  | bbs1 (zz : Byte) (off : Byte)
  /-- `0xA0` `LDY #$nn` (rule R142) -/
  | ldyImm (nn : Byte)
  /-- `0xA1` `LDA ($zz,X)` (rule R140) -/
  | ldaZpindx (zz : Byte)
  /-- `0xA2` `LDX #$nn` (rule R141) -/
  | ldxImm (nn : Byte)
  /-- `0xA4` `LDY $zz` (rule R142) -/
  | ldyZp (zz : Byte)
  /-- `0xA5` `LDA $zz` (rule R140) -/
  | ldaZp (zz : Byte)
  /-- `0xA6` `LDX $zz` (rule R141) -/
  | ldxZp (zz : Byte)
  /-- `0xA7` `SMB2 $zz` (rule R195) -/
  | smb2 (zz : Byte)
  /-- `0xA9` `LDA #$nn` (rule R140) -/
  | ldaImm (nn : Byte)
  /-- `0xAC` `LDY $hhll` (rule R142) -/
  | ldyAbs (addr : Address)
  /-- `0xAD` `LDA $hhll` (rule R140) -/
  | ldaAbs (addr : Address)
  /-- `0xAE` `LDX $hhll` (rule R141) -/
  | ldxAbs (addr : Address)
  /-- `0xAF` `BBS2 $zz,label` (rule R214) -/
  | bbs2 (zz : Byte) (off : Byte)
  /-- `0xB0` `BCS label` (rule R209) -/
  | bcs (off : Byte)
  /-- `0xB1` `LDA ($zz),Y` (rule R140) -/
  | ldaZpindy (zz : Byte)
  /-- `0xB2` `LDA ($zz)` (rule R140) -/
  | ldaZpind (zz : Byte)
  /-- `0xB4` `LDY $zz,X` (rule R142) -/
  | ldyZpx (zz : Byte)
  /-- `0xB5` `LDA $zz,X` (rule R140) -/
  | ldaZpx (zz : Byte)
  /-- `0xB6` `LDX $zz,Y` (rule R141) -/
  | ldxZpy (zz : Byte)
  /-- `0xB7` `SMB3 $zz` (rule R195) -/
  | smb3 (zz : Byte)
  /-- `0xB9` `LDA $hhll,Y` (rule R140) -/
  | ldaAbsy (addr : Address)
  /-- `0xBC` `LDY $hhll,X` (rule R142) -/
  | ldyAbsx (addr : Address)
  /-- `0xBD` `LDA $hhll,X` (rule R140) -/
  | ldaAbsx (addr : Address)
  /-- `0xBE` `LDX $hhll,Y` (rule R141) -/
  | ldxAbsy (addr : Address)
  /-- `0xBF` `BBS3 $zz,label` (rule R214) -/
  | bbs3 (zz : Byte) (off : Byte)
  /-- `0xC0` `CPY #$nn` (rule R167) -/
  | cpyImm (nn : Byte)
  /-- `0xC1` `CMP ($zz,X)` (rule R165) -/
  | cmpZpindx (zz : Byte)
  /-- `0xC4` `CPY $zz` (rule R167) -/
  | cpyZp (zz : Byte)
  /-- `0xC5` `CMP $zz` (rule R165) -/
  | cmpZp (zz : Byte)
  /-- `0xC6` `DEC $zz` (rule R172) -/
  | decZp (zz : Byte)
  /-- `0xC7` `SMB4 $zz` (rule R195) -/
  | smb4 (zz : Byte)
  /-- `0xC9` `CMP #$nn` (rule R165) -/
  | cmpImm (nn : Byte)
  /-- `0xCC` `CPY $hhll` (rule R167) -/
  | cpyAbs (addr : Address)
  /-- `0xCD` `CMP $hhll` (rule R165) -/
  | cmpAbs (addr : Address)
  /-- `0xCE` `DEC $hhll` (rule R172) -/
  | decAbs (addr : Address)
  /-- `0xCF` `BBS4 $zz,label` (rule R214) -/
  | bbs4 (zz : Byte) (off : Byte)
  /-- `0xD0` `BNE label` (rule R210) -/
  | bne (off : Byte)
  /-- `0xD1` `CMP ($zz),Y` (rule R165) -/
  | cmpZpindy (zz : Byte)
  /-- `0xD2` `CMP ($zz)` (rule R165) -/
  | cmpZpind (zz : Byte)
  /-- `0xD5` `CMP $zz,X` (rule R165) -/
  | cmpZpx (zz : Byte)
  /-- `0xD6` `DEC $zz,X` (rule R172) -/
  | decZpx (zz : Byte)
  /-- `0xD7` `SMB5 $zz` (rule R195) -/
  | smb5 (zz : Byte)
  /-- `0xD9` `CMP $hhll,Y` (rule R165) -/
  | cmpAbsy (addr : Address)
  /-- `0xDD` `CMP $hhll,X` (rule R165) -/
  | cmpAbsx (addr : Address)
  /-- `0xDE` `DEC $hhll,X` (rule R172) -/
  | decAbsx (addr : Address)
  /-- `0xDF` `BBS5 $zz,label` (rule R214) -/
  | bbs5 (zz : Byte) (off : Byte)
  /-- `0xE0` `CPX #$nn` (rule R166) -/
  | cpxImm (nn : Byte)
  /-- `0xE1` `SBC ($zz,X)` (rule R161) -/
  | sbcZpindx (zz : Byte)
  /-- `0xE4` `CPX $zz` (rule R166) -/
  | cpxZp (zz : Byte)
  /-- `0xE5` `SBC $zz` (rule R161) -/
  | sbcZp (zz : Byte)
  /-- `0xE6` `INC $zz` (rule R171) -/
  | incZp (zz : Byte)
  /-- `0xE7` `SMB6 $zz` (rule R195) -/
  | smb6 (zz : Byte)
  /-- `0xE9` `SBC #$nn` (rule R161) -/
  | sbcImm (nn : Byte)
  /-- `0xEC` `CPX $hhll` (rule R166) -/
  | cpxAbs (addr : Address)
  /-- `0xED` `SBC $hhll` (rule R161) -/
  | sbcAbs (addr : Address)
  /-- `0xEE` `INC $hhll` (rule R171) -/
  | incAbs (addr : Address)
  /-- `0xEF` `BBS6 $zz,label` (rule R214) -/
  | bbs6 (zz : Byte) (off : Byte)
  /-- `0xF0` `BEQ label` (rule R211) -/
  | beq (off : Byte)
  /-- `0xF1` `SBC ($zz),Y` (rule R161) -/
  | sbcZpindy (zz : Byte)
  /-- `0xF2` `SBC ($zz)` (rule R161) -/
  | sbcZpind (zz : Byte)
  /-- `0xF5` `SBC $zz,X` (rule R161) -/
  | sbcZpx (zz : Byte)
  /-- `0xF6` `INC $zz,X` (rule R171) -/
  | incZpx (zz : Byte)
  /-- `0xF7` `SMB7 $zz` (rule R195) -/
  | smb7 (zz : Byte)
  /-- `0xF9` `SBC $hhll,Y` (rule R161) -/
  | sbcAbsy (addr : Address)
  /-- `0xFD` `SBC $hhll,X` (rule R161) -/
  | sbcAbsx (addr : Address)
  /-- `0xFE` `INC $hhll,X` (rule R171) -/
  | incAbsx (addr : Address)
  /-- `0xFF` `BBS7 $zz,label` (rule R214) -/
  | bbs7 (zz : Byte) (off : Byte)
  /-- `0x00` `BRK` (rule R236) -/
  | brk
  /-- `0x02`, undefined (rule R68) -/
  | und02
  /-- `0x03`, undefined (rule R68) -/
  | und03
  /-- `0x08` `PHP` (rule R223) -/
  | php
  /-- `0x0A` `ASL A` (rule R190) -/
  | aslAcc
  /-- `0x0B`, undefined (rule R68) -/
  | und0B
  /-- `0x13`, undefined (rule R68) -/
  | und13
  /-- `0x18` `CLC` (rule R228) -/
  | clc
  /-- `0x1A` `INC A` (rule R171) -/
  | incAcc
  /-- `0x1B`, undefined (rule R68) -/
  | und1B
  /-- `0x22`, undefined (rule R68) -/
  | und22
  /-- `0x23`, undefined (rule R68) -/
  | und23
  /-- `0x28` `PLP` (rule R227) -/
  | plp
  /-- `0x2A` `ROL A` (rule R192) -/
  | rolAcc
  /-- `0x2B`, undefined (rule R68) -/
  | und2B
  /-- `0x33`, undefined (rule R68) -/
  | und33
  /-- `0x38` `SEC` (rule R229) -/
  | sec
  /-- `0x3A` `DEC A` (rule R172) -/
  | decAcc
  /-- `0x3B`, undefined (rule R68) -/
  | und3B
  /-- `0x40` `RTI` (rule R237) -/
  | rti
  /-- `0x42`, undefined (rule R68) -/
  | und42
  /-- `0x43`, undefined (rule R68) -/
  | und43
  /-- `0x44`, undefined (rule R68) -/
  | und44
  /-- `0x48` `PHA` (rule R220) -/
  | pha
  /-- `0x4A` `LSR A` (rule R191) -/
  | lsrAcc
  /-- `0x4B`, undefined (rule R68) -/
  | und4B
  /-- `0x53`, undefined (rule R68) -/
  | und53
  /-- `0x54`, undefined (rule R68) -/
  | und54
  /-- `0x58` `CLI` (rule R230) -/
  | cli
  /-- `0x5A` `PHY` (rule R222) -/
  | phy
  /-- `0x5B`, undefined (rule R68) -/
  | und5B
  /-- `0x5C`, undefined (rule R68) -/
  | und5C
  /-- `0x60` `RTS` (rule R202) -/
  | rts
  /-- `0x62`, undefined (rule R68) -/
  | und62
  /-- `0x63`, undefined (rule R68) -/
  | und63
  /-- `0x68` `PLA` (rule R224) -/
  | pla
  /-- `0x6A` `ROR A` (rule R193) -/
  | rorAcc
  /-- `0x6B`, undefined (rule R68) -/
  | und6B
  /-- `0x73`, undefined (rule R68) -/
  | und73
  /-- `0x78` `SEI` (rule R231) -/
  | sei
  /-- `0x7A` `PLY` (rule R226) -/
  | ply
  /-- `0x7B`, undefined (rule R68) -/
  | und7B
  /-- `0x82`, undefined (rule R68) -/
  | und82
  /-- `0x83`, undefined (rule R68) -/
  | und83
  /-- `0x88` `DEY` (rule R176) -/
  | dey
  /-- `0x8A` `TXA` (rule R149) -/
  | txa
  /-- `0x8B`, undefined (rule R68) -/
  | und8B
  /-- `0x93`, undefined (rule R68) -/
  | und93
  /-- `0x98` `TYA` (rule R150) -/
  | tya
  /-- `0x9A` `TXS` (rule R152) -/
  | txs
  /-- `0x9B`, undefined (rule R68) -/
  | und9B
  /-- `0xA3`, undefined (rule R68) -/
  | undA3
  /-- `0xA8` `TAY` (rule R148) -/
  | tay
  /-- `0xAA` `TAX` (rule R147) -/
  | tax
  /-- `0xAB`, undefined (rule R68) -/
  | undAB
  /-- `0xB3`, undefined (rule R68) -/
  | undB3
  /-- `0xB8` `CLV` (rule R234) -/
  | clv
  /-- `0xBA` `TSX` (rule R151) -/
  | tsx
  /-- `0xBB`, undefined (rule R68) -/
  | undBB
  /-- `0xC2`, undefined (rule R68) -/
  | undC2
  /-- `0xC3`, undefined (rule R68) -/
  | undC3
  /-- `0xC8` `INY` (rule R174) -/
  | iny
  /-- `0xCA` `DEX` (rule R175) -/
  | dex
  /-- `0xCB`, undefined (rule R68) -/
  | undCB
  /-- `0xD3`, undefined (rule R68) -/
  | undD3
  /-- `0xD4`, undefined (rule R68) -/
  | undD4
  /-- `0xD8` `CLD` (rule R232) -/
  | cld
  /-- `0xDA` `PHX` (rule R221) -/
  | phx
  /-- `0xDB`, undefined (rule R68) -/
  | undDB
  /-- `0xDC`, undefined (rule R68) -/
  | undDC
  /-- `0xE2`, undefined (rule R68) -/
  | undE2
  /-- `0xE3`, undefined (rule R68) -/
  | undE3
  /-- `0xE8` `INX` (rule R173) -/
  | inx
  /-- `0xEA` `NOP` (rule R235) -/
  | nop
  /-- `0xEB`, undefined (rule R68) -/
  | undEB
  /-- `0xF3`, undefined (rule R68) -/
  | undF3
  /-- `0xF4`, undefined (rule R68) -/
  | undF4
  /-- `0xF8` `SED` (rule R233) -/
  | sed
  /-- `0xFA` `PLX` (rule R225) -/
  | plx
  /-- `0xFB`, undefined (rule R68) -/
  | undFB
  /-- `0xFC`, undefined (rule R68) -/
  | undFC
  deriving DecidableEq, Repr

/-- The mode of an operand. -/
def MemOperand.mode : MemOperand → Mode
  | .imm _ => .imm
  | .zp _ => .zp
  | .zpx _ => .zpx
  | .zpy _ => .zpy
  | .abs _ => .abs
  | .absx _ => .absx
  | .absy _ => .absy
  | .ind _ => .ind
  | .absindx _ => .absindx
  | .zpind _ => .zpind
  | .zpindx _ => .zpindx
  | .zpindy _ => .zpindy

/-- The mode of an operand. -/
def Operand.mode : Operand → Mode
  | .imp => .imp
  | .acc => .acc
  | .mem m => m.mode
  | .rel _ => .rel
  | .zprel _ _ => .zprel

end Sys2Proof
end

