-- ==== Sys2Proof/Config.lean ====
section
/-! DEFINITION. The implementation parameters of 00_scope.md rule R7, as one record: "A model takes each as a configuration
field". Their values (the defaults of rule R7) stand in Sys2Proof/Machine/Params.lean; `CLOCK_RATIO` is recorded in the
instance of Sys2Proof/Machine/Driver.lean (rules R8, R290). -/

namespace Sys2Proof

/-- `UNDEF_POLICY` of rules R7 and R68: what a step does on an undefined opcode. -/
inductive UndefPolicy where
  /-- option (b): the step ends with the fault `UndefinedOpcode(PC0, op)` (rule R260) -/
  | fault
  /-- option (a): `PC` and `CYC` move by the declared length and cost and nothing else changes (rule R68) -/
  | skip
  deriving DecidableEq, Repr

/-- The named parameters of rule R7. -/
structure Config where
  /-- `VEC_NMI`, address of the low byte of the non-maskable-interrupt vector -/
  vecNmi : Address
  /-- `VEC_RESET`, address of the low byte of the reset vector -/
  vecReset : Address
  /-- `VEC_IRQ`, address of the low byte of the maskable-interrupt and BRK vector -/
  vecIrq : Address
  /-- `STACK_BASE`, base of the stack page (fixed by the document, named for the pseudocode) -/
  stackBase : Address
  /-- `BRK_LENGTH`, the declared length of opcode `0x00` -/
  brkLength : Nat
  /-- `MNEM[op]`, the mnemonic of an opcode byte (rules R60, R64, D2; log entry 14) -/
  mnem : Byte → Mnemonic
  /-- `MODE[op]`, its addressing mode; an undefined opcode has none (rules R61, R64, R98, D2; log entry 14) -/
  mode : Byte → Option Mode
  /-- `LEN[op]`, its declared length (rules R61, R64, D2; log entry 14) -/
  len : Byte → Nat
  /-- `FLAGMASK[op]`, the flags the generic rule updates for it (rules R66, R110, D2; log entry 14) -/
  flagMask : Byte → FlagMask
  /-- `BASE_CYCLES[op]`, the cycles one execution of it adds (rules R67, R124, D3; log entry 14) -/
  baseCycles : Byte → Nat
  /-- `UNDEF_POLICY` -/
  undefPolicy : UndefPolicy
  /-- the unbounded decimal-mode sum of two bytes and a carry (rule R100; 93_implementation_defined.md U3 makes it a
  parameter) -/
  decimalSum : Byte → Byte → Bool → Nat

end Sys2Proof
end

