-- ==== Sys2Proof/Machine/Table.lean ====
section
/-! DEFINITION. The default decoder table of 00_scope.md rule R7: the 256 rows of 30_encoding.md rule R64 (92_eei_decisions.md
D2, D3, D5; log entry 14). Sys2Proof/Machine/Params.lean makes its columns the values of the Config fields. -/

namespace Sys2Proof.Machine

/-- The default of `BRK_LENGTH`, the declared length of opcode `0x00` (rule R7, D5; log entry 3). -/
def brkLengthDefault : Nat := 2

/-! ### Sixteen rows of sixteen, by the high and the low nibble of the opcode -/

/-- Opcodes `0x00` to `0x0F` of rule R64. -/
def descriptorRow0 : List Descriptor :=
  [⟨.brk, some .imp, brkLengthDefault, 7, .none⟩,
   ⟨.ora, some .zpindx, 2, 6, .nz⟩,
   ⟨.undefined, none, 2, 2, .none⟩,
   ⟨.undefined, none, 1, 1, .none⟩,
   ⟨.tsb, some .zp, 2, 5, .none⟩,
   ⟨.ora, some .zp, 2, 3, .nz⟩,
   ⟨.asl, some .zp, 2, 5, .nz⟩,
   ⟨.rmb 0, some .zp, 2, 5, .none⟩,
   ⟨.php, some .imp, 1, 3, .none⟩,
   ⟨.ora, some .imm, 2, 2, .nz⟩,
   ⟨.asl, some .acc, 1, 2, .nz⟩,
   ⟨.undefined, none, 1, 1, .none⟩,
   ⟨.tsb, some .abs, 3, 6, .none⟩,
   ⟨.ora, some .abs, 3, 4, .nz⟩,
   ⟨.asl, some .abs, 3, 6, .nz⟩,
   ⟨.bbr 0, some .zprel, 3, 5, .none⟩]

/-- Opcodes `0x10` to `0x1F` of rule R64. -/
def descriptorRow1 : List Descriptor :=
  [⟨.bpl, some .rel, 2, 2, .none⟩,
   ⟨.ora, some .zpindy, 2, 5, .nz⟩,
   ⟨.ora, some .zpind, 2, 5, .nz⟩,
   ⟨.undefined, none, 1, 1, .none⟩,
   ⟨.trb, some .zp, 2, 5, .none⟩,
   ⟨.ora, some .zpx, 2, 4, .nz⟩,
   ⟨.asl, some .zpx, 2, 6, .nz⟩,
   ⟨.rmb 1, some .zp, 2, 5, .none⟩,
   ⟨.clc, some .imp, 1, 2, .none⟩,
   ⟨.ora, some .absy, 3, 4, .nz⟩,
   ⟨.inc, some .acc, 1, 2, .nz⟩,
   ⟨.undefined, none, 1, 1, .none⟩,
   ⟨.trb, some .abs, 3, 6, .none⟩,
   ⟨.ora, some .absx, 3, 4, .nz⟩,
   ⟨.asl, some .absx, 3, 6, .nz⟩,
   ⟨.bbr 1, some .zprel, 3, 5, .none⟩]

/-- Opcodes `0x20` to `0x2F` of rule R64. -/
def descriptorRow2 : List Descriptor :=
  [⟨.jsr, some .abs, 3, 6, .none⟩,
   ⟨.and, some .zpindx, 2, 6, .nz⟩,
   ⟨.undefined, none, 2, 2, .none⟩,
   ⟨.undefined, none, 1, 1, .none⟩,
   ⟨.bit, some .zp, 2, 3, .n⟩,
   ⟨.and, some .zp, 2, 3, .nz⟩,
   ⟨.rol, some .zp, 2, 5, .nz⟩,
   ⟨.rmb 2, some .zp, 2, 5, .none⟩,
   ⟨.plp, some .imp, 1, 4, .none⟩,
   ⟨.and, some .imm, 2, 2, .nz⟩,
   ⟨.rol, some .acc, 1, 2, .nz⟩,
   ⟨.undefined, none, 1, 1, .none⟩,
   ⟨.bit, some .abs, 3, 4, .n⟩,
   ⟨.and, some .abs, 3, 4, .nz⟩,
   ⟨.rol, some .abs, 3, 6, .nz⟩,
   ⟨.bbr 2, some .zprel, 3, 5, .none⟩]

/-- Opcodes `0x30` to `0x3F` of rule R64. -/
def descriptorRow3 : List Descriptor :=
  [⟨.bmi, some .rel, 2, 2, .none⟩,
   ⟨.and, some .zpindy, 2, 5, .nz⟩,
   ⟨.and, some .zpind, 2, 5, .nz⟩,
   ⟨.undefined, none, 1, 1, .none⟩,
   ⟨.bit, some .zpx, 2, 4, .n⟩,
   ⟨.and, some .zpx, 2, 4, .nz⟩,
   ⟨.rol, some .zpx, 2, 6, .nz⟩,
   ⟨.rmb 3, some .zp, 2, 5, .none⟩,
   ⟨.sec, some .imp, 1, 2, .none⟩,
   ⟨.and, some .absy, 3, 4, .nz⟩,
   ⟨.dec, some .acc, 1, 2, .nz⟩,
   ⟨.undefined, none, 1, 1, .none⟩,
   ⟨.bit, some .absx, 3, 4, .n⟩,
   ⟨.and, some .absx, 3, 4, .nz⟩,
   ⟨.rol, some .absx, 3, 6, .nz⟩,
   ⟨.bbr 3, some .zprel, 3, 5, .none⟩]

/-- Opcodes `0x40` to `0x4F` of rule R64. -/
def descriptorRow4 : List Descriptor :=
  [⟨.rti, some .imp, 1, 6, .none⟩,
   ⟨.eor, some .zpindx, 2, 6, .nz⟩,
   ⟨.undefined, none, 2, 2, .none⟩,
   ⟨.undefined, none, 1, 1, .none⟩,
   ⟨.undefined, none, 2, 3, .none⟩,
   ⟨.eor, some .zp, 2, 3, .nz⟩,
   ⟨.lsr, some .zp, 2, 5, .nz⟩,
   ⟨.rmb 4, some .zp, 2, 5, .none⟩,
   ⟨.pha, some .imp, 1, 3, .none⟩,
   ⟨.eor, some .imm, 2, 2, .nz⟩,
   ⟨.lsr, some .acc, 1, 2, .nz⟩,
   ⟨.undefined, none, 1, 1, .none⟩,
   ⟨.jmp, some .abs, 3, 3, .none⟩,
   ⟨.eor, some .abs, 3, 4, .nz⟩,
   ⟨.lsr, some .abs, 3, 6, .nz⟩,
   ⟨.bbr 4, some .zprel, 3, 5, .none⟩]

/-- Opcodes `0x50` to `0x5F` of rule R64. -/
def descriptorRow5 : List Descriptor :=
  [⟨.bvc, some .rel, 2, 2, .none⟩,
   ⟨.eor, some .zpindy, 2, 5, .nz⟩,
   ⟨.eor, some .zpind, 2, 5, .nz⟩,
   ⟨.undefined, none, 1, 1, .none⟩,
   ⟨.undefined, none, 2, 4, .none⟩,
   ⟨.eor, some .zpx, 2, 4, .nz⟩,
   ⟨.lsr, some .zpx, 2, 6, .nz⟩,
   ⟨.rmb 5, some .zp, 2, 5, .none⟩,
   ⟨.cli, some .imp, 1, 2, .none⟩,
   ⟨.eor, some .absy, 3, 4, .nz⟩,
   ⟨.phy, some .imp, 1, 3, .none⟩,
   ⟨.undefined, none, 1, 1, .none⟩,
   ⟨.undefined, none, 3, 8, .none⟩,
   ⟨.eor, some .absx, 3, 4, .nz⟩,
   ⟨.lsr, some .absx, 3, 6, .nz⟩,
   ⟨.bbr 5, some .zprel, 3, 5, .none⟩]

/-- Opcodes `0x60` to `0x6F` of rule R64. -/
def descriptorRow6 : List Descriptor :=
  [⟨.rts, some .imp, 1, 6, .none⟩,
   ⟨.adc, some .zpindx, 2, 6, .nz⟩,
   ⟨.undefined, none, 2, 2, .none⟩,
   ⟨.undefined, none, 1, 1, .none⟩,
   ⟨.stz, some .zp, 2, 3, .none⟩,
   ⟨.adc, some .zp, 2, 3, .nz⟩,
   ⟨.ror, some .zp, 2, 5, .nz⟩,
   ⟨.rmb 6, some .zp, 2, 5, .none⟩,
   ⟨.pla, some .imp, 1, 4, .nz⟩,
   ⟨.adc, some .imm, 2, 2, .nz⟩,
   ⟨.ror, some .acc, 1, 2, .nz⟩,
   ⟨.undefined, none, 1, 1, .none⟩,
   ⟨.jmp, some .ind, 3, 6, .none⟩,
   ⟨.adc, some .abs, 3, 4, .nz⟩,
   ⟨.ror, some .abs, 3, 6, .nz⟩,
   ⟨.bbr 6, some .zprel, 3, 5, .none⟩]

/-- Opcodes `0x70` to `0x7F` of rule R64. -/
def descriptorRow7 : List Descriptor :=
  [⟨.bvs, some .rel, 2, 2, .none⟩,
   ⟨.adc, some .zpindy, 2, 5, .nz⟩,
   ⟨.adc, some .zpind, 2, 5, .nz⟩,
   ⟨.undefined, none, 1, 1, .none⟩,
   ⟨.stz, some .zpx, 2, 4, .none⟩,
   ⟨.adc, some .zpx, 2, 4, .nz⟩,
   ⟨.ror, some .zpx, 2, 6, .nz⟩,
   ⟨.rmb 7, some .zp, 2, 5, .none⟩,
   ⟨.sei, some .imp, 1, 2, .none⟩,
   ⟨.adc, some .absy, 3, 4, .nz⟩,
   ⟨.ply, some .imp, 1, 4, .nz⟩,
   ⟨.undefined, none, 1, 1, .none⟩,
   ⟨.jmp, some .absindx, 3, 6, .none⟩,
   ⟨.adc, some .absx, 3, 4, .nz⟩,
   ⟨.ror, some .absx, 3, 6, .nz⟩,
   ⟨.bbr 7, some .zprel, 3, 5, .none⟩]

/-- Opcodes `0x80` to `0x8F` of rule R64. -/
def descriptorRow8 : List Descriptor :=
  [⟨.bra, some .rel, 2, 3, .none⟩,
   ⟨.sta, some .zpindx, 2, 6, .none⟩,
   ⟨.undefined, none, 2, 2, .none⟩,
   ⟨.undefined, none, 1, 1, .none⟩,
   ⟨.sty, some .zp, 2, 3, .none⟩,
   ⟨.sta, some .zp, 2, 3, .none⟩,
   ⟨.stx, some .zp, 2, 3, .none⟩,
   ⟨.smb 0, some .zp, 2, 5, .none⟩,
   ⟨.dey, some .imp, 1, 2, .nz⟩,
   ⟨.bit, some .imm, 2, 2, .none⟩,
   ⟨.txa, some .imp, 1, 2, .nz⟩,
   ⟨.undefined, none, 1, 1, .none⟩,
   ⟨.sty, some .abs, 3, 4, .none⟩,
   ⟨.sta, some .abs, 3, 4, .none⟩,
   ⟨.stx, some .abs, 3, 4, .none⟩,
   ⟨.bbs 0, some .zprel, 3, 5, .none⟩]

/-- Opcodes `0x90` to `0x9F` of rule R64. -/
def descriptorRow9 : List Descriptor :=
  [⟨.bcc, some .rel, 2, 2, .none⟩,
   ⟨.sta, some .zpindy, 2, 6, .none⟩,
   ⟨.sta, some .zpind, 2, 5, .none⟩,
   ⟨.undefined, none, 1, 1, .none⟩,
   ⟨.sty, some .zpx, 2, 4, .none⟩,
   ⟨.sta, some .zpx, 2, 4, .none⟩,
   ⟨.stx, some .zpy, 2, 4, .none⟩,
   ⟨.smb 1, some .zp, 2, 5, .none⟩,
   ⟨.tya, some .imp, 1, 2, .nz⟩,
   ⟨.sta, some .absy, 3, 5, .none⟩,
   ⟨.txs, some .imp, 1, 2, .none⟩,
   ⟨.undefined, none, 1, 1, .none⟩,
   ⟨.stz, some .abs, 3, 4, .none⟩,
   ⟨.sta, some .absx, 3, 5, .none⟩,
   ⟨.stz, some .absx, 3, 5, .none⟩,
   ⟨.bbs 1, some .zprel, 3, 5, .none⟩]

/-- Opcodes `0xA0` to `0xAF` of rule R64. -/
def descriptorRowA : List Descriptor :=
  [⟨.ldy, some .imm, 2, 2, .nz⟩,
   ⟨.lda, some .zpindx, 2, 6, .nz⟩,
   ⟨.ldx, some .imm, 2, 2, .nz⟩,
   ⟨.undefined, none, 1, 1, .none⟩,
   ⟨.ldy, some .zp, 2, 3, .nz⟩,
   ⟨.lda, some .zp, 2, 3, .nz⟩,
   ⟨.ldx, some .zp, 2, 3, .nz⟩,
   ⟨.smb 2, some .zp, 2, 5, .none⟩,
   ⟨.tay, some .imp, 1, 2, .nz⟩,
   ⟨.lda, some .imm, 2, 2, .nz⟩,
   ⟨.tax, some .imp, 1, 2, .nz⟩,
   ⟨.undefined, none, 1, 1, .none⟩,
   ⟨.ldy, some .abs, 3, 4, .nz⟩,
   ⟨.lda, some .abs, 3, 4, .nz⟩,
   ⟨.ldx, some .abs, 3, 4, .nz⟩,
   ⟨.bbs 2, some .zprel, 3, 5, .none⟩]

/-- Opcodes `0xB0` to `0xBF` of rule R64. -/
def descriptorRowB : List Descriptor :=
  [⟨.bcs, some .rel, 2, 2, .none⟩,
   ⟨.lda, some .zpindy, 2, 5, .nz⟩,
   ⟨.lda, some .zpind, 2, 5, .nz⟩,
   ⟨.undefined, none, 1, 1, .none⟩,
   ⟨.ldy, some .zpx, 2, 4, .nz⟩,
   ⟨.lda, some .zpx, 2, 4, .nz⟩,
   ⟨.ldx, some .zpy, 2, 4, .nz⟩,
   ⟨.smb 3, some .zp, 2, 5, .none⟩,
   ⟨.clv, some .imp, 1, 2, .none⟩,
   ⟨.lda, some .absy, 3, 4, .nz⟩,
   ⟨.tsx, some .imp, 1, 2, .nz⟩,
   ⟨.undefined, none, 1, 1, .none⟩,
   ⟨.ldy, some .absx, 3, 4, .nz⟩,
   ⟨.lda, some .absx, 3, 4, .nz⟩,
   ⟨.ldx, some .absy, 3, 4, .nz⟩,
   ⟨.bbs 3, some .zprel, 3, 5, .none⟩]

/-- Opcodes `0xC0` to `0xCF` of rule R64. -/
def descriptorRowC : List Descriptor :=
  [⟨.cpy, some .imm, 2, 2, .nz⟩,
   ⟨.cmp, some .zpindx, 2, 6, .nz⟩,
   ⟨.undefined, none, 2, 2, .none⟩,
   ⟨.undefined, none, 1, 1, .none⟩,
   ⟨.cpy, some .zp, 2, 3, .nz⟩,
   ⟨.cmp, some .zp, 2, 3, .nz⟩,
   ⟨.dec, some .zp, 2, 5, .nz⟩,
   ⟨.smb 4, some .zp, 2, 5, .none⟩,
   ⟨.iny, some .imp, 1, 2, .nz⟩,
   ⟨.cmp, some .imm, 2, 2, .nz⟩,
   ⟨.dex, some .imp, 1, 2, .nz⟩,
   ⟨.undefined, none, 1, 1, .none⟩,
   ⟨.cpy, some .abs, 3, 4, .nz⟩,
   ⟨.cmp, some .abs, 3, 4, .nz⟩,
   ⟨.dec, some .abs, 3, 6, .nz⟩,
   ⟨.bbs 4, some .zprel, 3, 5, .none⟩]

/-- Opcodes `0xD0` to `0xDF` of rule R64. -/
def descriptorRowD : List Descriptor :=
  [⟨.bne, some .rel, 2, 2, .none⟩,
   ⟨.cmp, some .zpindy, 2, 5, .nz⟩,
   ⟨.cmp, some .zpind, 2, 5, .nz⟩,
   ⟨.undefined, none, 1, 1, .none⟩,
   ⟨.undefined, none, 2, 4, .none⟩,
   ⟨.cmp, some .zpx, 2, 4, .nz⟩,
   ⟨.dec, some .zpx, 2, 6, .nz⟩,
   ⟨.smb 5, some .zp, 2, 5, .none⟩,
   ⟨.cld, some .imp, 1, 2, .none⟩,
   ⟨.cmp, some .absy, 3, 4, .nz⟩,
   ⟨.phx, some .imp, 1, 3, .none⟩,
   ⟨.undefined, none, 1, 1, .none⟩,
   ⟨.undefined, none, 3, 4, .none⟩,
   ⟨.cmp, some .absx, 3, 4, .nz⟩,
   ⟨.dec, some .absx, 3, 7, .nz⟩,
   ⟨.bbs 5, some .zprel, 3, 5, .none⟩]

/-- Opcodes `0xE0` to `0xEF` of rule R64. -/
def descriptorRowE : List Descriptor :=
  [⟨.cpx, some .imm, 2, 2, .nz⟩,
   ⟨.sbc, some .zpindx, 2, 6, .nz⟩,
   ⟨.undefined, none, 2, 2, .none⟩,
   ⟨.undefined, none, 1, 1, .none⟩,
   ⟨.cpx, some .zp, 2, 3, .nz⟩,
   ⟨.sbc, some .zp, 2, 3, .nz⟩,
   ⟨.inc, some .zp, 2, 5, .nz⟩,
   ⟨.smb 6, some .zp, 2, 5, .none⟩,
   ⟨.inx, some .imp, 1, 2, .nz⟩,
   ⟨.sbc, some .imm, 2, 2, .nz⟩,
   ⟨.nop, some .imp, 1, 2, .none⟩,
   ⟨.undefined, none, 1, 1, .none⟩,
   ⟨.cpx, some .abs, 3, 4, .nz⟩,
   ⟨.sbc, some .abs, 3, 4, .nz⟩,
   ⟨.inc, some .abs, 3, 6, .nz⟩,
   ⟨.bbs 6, some .zprel, 3, 5, .none⟩]

/-- Opcodes `0xF0` to `0xFF` of rule R64. -/
def descriptorRowF : List Descriptor :=
  [⟨.beq, some .rel, 2, 2, .none⟩,
   ⟨.sbc, some .zpindy, 2, 5, .nz⟩,
   ⟨.sbc, some .zpind, 2, 5, .nz⟩,
   ⟨.undefined, none, 1, 1, .none⟩,
   ⟨.undefined, none, 2, 4, .none⟩,
   ⟨.sbc, some .zpx, 2, 4, .nz⟩,
   ⟨.inc, some .zpx, 2, 6, .nz⟩,
   ⟨.smb 7, some .zp, 2, 5, .none⟩,
   ⟨.sed, some .imp, 1, 2, .none⟩,
   ⟨.sbc, some .absy, 3, 4, .nz⟩,
   ⟨.plx, some .imp, 1, 4, .nz⟩,
   ⟨.undefined, none, 1, 1, .none⟩,
   ⟨.undefined, none, 3, 4, .none⟩,
   ⟨.sbc, some .absx, 3, 4, .nz⟩,
   ⟨.inc, some .absx, 3, 7, .nz⟩,
   ⟨.bbs 7, some .zprel, 3, 5, .none⟩]

/-- The sixteen rows of the decoder table. -/
def descriptorRows : List (List Descriptor) :=
  [descriptorRow0, descriptorRow1, descriptorRow2, descriptorRow3, descriptorRow4, descriptorRow5, descriptorRow6, descriptorRow7,
   descriptorRow8, descriptorRow9, descriptorRowA, descriptorRowB, descriptorRowC, descriptorRowD, descriptorRowE, descriptorRowF]

/-- The row of an opcode byte in the default table (rules R60, R64). -/
def defaultDescriptor (op : Byte) : Descriptor :=
  (descriptorRows.getD (op.toNat / 16) []).getD (op.toNat % 16) ⟨.undefined, none, 1, 1, .none⟩

end Sys2Proof.Machine
end

