-- ==== Sys2Proof/Machine/Params.lean ====
section
/-! DEFINITION. The values of the parameters of 00_scope.md rule R7 (the defaults the spec gives them). -/

namespace Sys2Proof.Machine

/-- The decimal branch of `AddWithCarry`, rule R100: the unbounded sum after both corrections, the low digit not
masked (92_eei_decisions.md D11; log entry 7). -/
def decimalSumDefault (a m : Byte) (cin : Bool) : Nat :=
  let lo := (a &&& 0x0F#8).toNat + (m &&& 0x0F#8).toNat + cin.toNat
  let lo := if lo ≥ 0x0A then lo + 6 else lo
  let sum := (a &&& 0xF0#8).toNat + (m &&& 0xF0#8).toNat + lo
  if sum ≥ 0xA0 then sum + 0x60 else sum

/-- The defaults of rule R7 (D1, D2, D3, D5, D6, D11; log entries 1, 3, 5, 7, 14). -/
def config : Config where
  vecNmi := 0xFFFA#16
  vecReset := 0xFFFC#16
  vecIrq := 0xFFFE#16
  stackBase := 0x0100#16
  brkLength := brkLengthDefault
  mnem := fun op => (defaultDescriptor op).mnemonic
  mode := fun op => (defaultDescriptor op).mode
  len := fun op => (defaultDescriptor op).length
  flagMask := fun op => (defaultDescriptor op).flagMask
  baseCycles := fun op => (defaultDescriptor op).baseCycles
  undefPolicy := .fault
  decimalSum := decimalSumDefault

end Sys2Proof.Machine
end

