-- ==== Sys2Proof/Decode.lean ====
section
/-! DEFINITION. The decoder over the configuration's tables, and the encoder (30_encoding.md rules R60 to R69). -/

namespace Sys2Proof

/-! ### The decoder table (rules R7, R64) -/

/-- The decoder table: the entry of an opcode byte, from the five tables of the configuration (rules R7, R60, R64, R121).
Total: an opcode is defined exactly when its mnemonic is not `undefined`. -/
def descriptor (op : Byte) : Descriptor where
  mnemonic := Machine.config.mnem op
  mode := Machine.config.mode op
  length := Machine.config.len op
  baseCycles := Machine.config.baseCycles op
  flagMask := Machine.config.flagMask op

/-- The number of operand bytes that follow the opcode in a mode (rules R61, R97). -/
def Mode.operandBytes : Mode → Nat
  | .imp | .acc => 0
  | .imm | .zp | .zpx | .zpy | .zpind | .zpindx | .zpindy | .rel => 1
  | .abs | .absx | .absy | .ind | .absindx | .zprel => 2

/-- How many operand bytes a step reads after the opcode `op`: those of its mode; none for an undefined opcode
(rule R68) and none for `BRK`, whose padding byte is never read (rule R236). -/
def operandByteCount (op : Byte) : Nat :=
  match (descriptor op).mode with
  | some m => m.operandBytes
  | none => 0

/-! ### The decoder: the instruction of an opcode and its operand bytes (rules R60 to R64)

What an opcode byte means is read from `MNEM[op]` and `MODE[op]` alone (rule R121): the pair selects a constructor of
`Instr`, which takes the operand bytes. -/

/-- The instruction of one form from operand bytes 1 and 2 (rules R61, R63); a byte its mode does not have is ignored. -/
abbrev Form := Byte → Byte → Instr

/-- `RMBn` (rule R194). -/
def rmbForm (n : Fin 8) : Form := fun zz _ =>
  [Instr.rmb0 zz, .rmb1 zz, .rmb2 zz, .rmb3 zz, .rmb4 zz, .rmb5 zz, .rmb6 zz, .rmb7 zz].getD n.val (.rmb0 zz)

/-- `SMBn` (rule R195). -/
def smbForm (n : Fin 8) : Form := fun zz _ =>
  [Instr.smb0 zz, .smb1 zz, .smb2 zz, .smb3 zz, .smb4 zz, .smb5 zz, .smb6 zz, .smb7 zz].getD n.val (.smb0 zz)

/-- `BBRn` (rule R213). -/
def bbrForm (n : Fin 8) : Form := fun zz off =>
  [Instr.bbr0 zz off, .bbr1 zz off, .bbr2 zz off, .bbr3 zz off, .bbr4 zz off, .bbr5 zz off, .bbr6 zz off,
    .bbr7 zz off].getD n.val (.bbr0 zz off)

/-- `BBSn` (rule R214). -/
def bbsForm (n : Fin 8) : Form := fun zz off =>
  [Instr.bbs0 zz off, .bbs1 zz off, .bbs2 zz off, .bbs3 zz off, .bbs4 zz off, .bbs5 zz off, .bbs6 zz off,
    .bbs7 zz off].getD n.val (.bbs0 zz off)

/-- The forms of a mnemonic: the modes it has, each with its instruction (rule R64). -/
def formsOf : Mnemonic → List (Mode × Form)
  | .adc => [(.imm, fun nn _ => .adcImm nn), (.zp, fun zz _ => .adcZp zz), (.zpx, fun zz _ => .adcZpx zz),
      (.abs, fun ll hh => .adcAbs (Machine.wordOf hh ll)), (.absx, fun ll hh => .adcAbsx (Machine.wordOf hh ll)),
      (.absy, fun ll hh => .adcAbsy (Machine.wordOf hh ll)), (.zpind, fun zz _ => .adcZpind zz),
      (.zpindx, fun zz _ => .adcZpindx zz), (.zpindy, fun zz _ => .adcZpindy zz)]
  | .and => [(.imm, fun nn _ => .andImm nn), (.zp, fun zz _ => .andZp zz), (.zpx, fun zz _ => .andZpx zz),
      (.abs, fun ll hh => .andAbs (Machine.wordOf hh ll)), (.absx, fun ll hh => .andAbsx (Machine.wordOf hh ll)),
      (.absy, fun ll hh => .andAbsy (Machine.wordOf hh ll)), (.zpind, fun zz _ => .andZpind zz),
      (.zpindx, fun zz _ => .andZpindx zz), (.zpindy, fun zz _ => .andZpindy zz)]
  | .asl => [(.acc, fun _ _ => .aslAcc), (.zp, fun zz _ => .aslZp zz), (.zpx, fun zz _ => .aslZpx zz),
      (.abs, fun ll hh => .aslAbs (Machine.wordOf hh ll)), (.absx, fun ll hh => .aslAbsx (Machine.wordOf hh ll))]
  | .bcc => [(.rel, fun off _ => .bcc off)]
  | .bcs => [(.rel, fun off _ => .bcs off)]
  | .beq => [(.rel, fun off _ => .beq off)]
  | .bit => [(.imm, fun nn _ => .bitImm nn), (.zp, fun zz _ => .bitZp zz), (.zpx, fun zz _ => .bitZpx zz),
      (.abs, fun ll hh => .bitAbs (Machine.wordOf hh ll)), (.absx, fun ll hh => .bitAbsx (Machine.wordOf hh ll))]
  | .bmi => [(.rel, fun off _ => .bmi off)]
  | .bne => [(.rel, fun off _ => .bne off)]
  | .bpl => [(.rel, fun off _ => .bpl off)]
  | .bra => [(.rel, fun off _ => .bra off)]
  | .brk => [(.imp, fun _ _ => .brk)]
  | .bvc => [(.rel, fun off _ => .bvc off)]
  | .bvs => [(.rel, fun off _ => .bvs off)]
  | .clc => [(.imp, fun _ _ => .clc)]
  | .cld => [(.imp, fun _ _ => .cld)]
  | .cli => [(.imp, fun _ _ => .cli)]
  | .clv => [(.imp, fun _ _ => .clv)]
  | .cmp => [(.imm, fun nn _ => .cmpImm nn), (.zp, fun zz _ => .cmpZp zz), (.zpx, fun zz _ => .cmpZpx zz),
      (.abs, fun ll hh => .cmpAbs (Machine.wordOf hh ll)), (.absx, fun ll hh => .cmpAbsx (Machine.wordOf hh ll)),
      (.absy, fun ll hh => .cmpAbsy (Machine.wordOf hh ll)), (.zpind, fun zz _ => .cmpZpind zz),
      (.zpindx, fun zz _ => .cmpZpindx zz), (.zpindy, fun zz _ => .cmpZpindy zz)]
  | .cpx => [(.imm, fun nn _ => .cpxImm nn), (.zp, fun zz _ => .cpxZp zz),
      (.abs, fun ll hh => .cpxAbs (Machine.wordOf hh ll))]
  | .cpy => [(.imm, fun nn _ => .cpyImm nn), (.zp, fun zz _ => .cpyZp zz),
      (.abs, fun ll hh => .cpyAbs (Machine.wordOf hh ll))]
  | .dec => [(.acc, fun _ _ => .decAcc), (.zp, fun zz _ => .decZp zz), (.zpx, fun zz _ => .decZpx zz),
      (.abs, fun ll hh => .decAbs (Machine.wordOf hh ll)), (.absx, fun ll hh => .decAbsx (Machine.wordOf hh ll))]
  | .dex => [(.imp, fun _ _ => .dex)]
  | .dey => [(.imp, fun _ _ => .dey)]
  | .eor => [(.imm, fun nn _ => .eorImm nn), (.zp, fun zz _ => .eorZp zz), (.zpx, fun zz _ => .eorZpx zz),
      (.abs, fun ll hh => .eorAbs (Machine.wordOf hh ll)), (.absx, fun ll hh => .eorAbsx (Machine.wordOf hh ll)),
      (.absy, fun ll hh => .eorAbsy (Machine.wordOf hh ll)), (.zpind, fun zz _ => .eorZpind zz),
      (.zpindx, fun zz _ => .eorZpindx zz), (.zpindy, fun zz _ => .eorZpindy zz)]
  | .inc => [(.acc, fun _ _ => .incAcc), (.zp, fun zz _ => .incZp zz), (.zpx, fun zz _ => .incZpx zz),
      (.abs, fun ll hh => .incAbs (Machine.wordOf hh ll)), (.absx, fun ll hh => .incAbsx (Machine.wordOf hh ll))]
  | .inx => [(.imp, fun _ _ => .inx)]
  | .iny => [(.imp, fun _ _ => .iny)]
  | .jmp => [(.abs, fun ll hh => .jmpAbs (Machine.wordOf hh ll)),
      (.ind, fun ll hh => .jmpInd (Machine.wordOf hh ll)),
      (.absindx, fun ll hh => .jmpAbsindx (Machine.wordOf hh ll))]
  | .jsr => [(.abs, fun ll hh => .jsrAbs (Machine.wordOf hh ll))]
  | .lda => [(.imm, fun nn _ => .ldaImm nn), (.zp, fun zz _ => .ldaZp zz), (.zpx, fun zz _ => .ldaZpx zz),
      (.abs, fun ll hh => .ldaAbs (Machine.wordOf hh ll)), (.absx, fun ll hh => .ldaAbsx (Machine.wordOf hh ll)),
      (.absy, fun ll hh => .ldaAbsy (Machine.wordOf hh ll)), (.zpind, fun zz _ => .ldaZpind zz),
      (.zpindx, fun zz _ => .ldaZpindx zz), (.zpindy, fun zz _ => .ldaZpindy zz)]
  | .ldx => [(.imm, fun nn _ => .ldxImm nn), (.zp, fun zz _ => .ldxZp zz), (.zpy, fun zz _ => .ldxZpy zz),
      (.abs, fun ll hh => .ldxAbs (Machine.wordOf hh ll)), (.absy, fun ll hh => .ldxAbsy (Machine.wordOf hh ll))]
  | .ldy => [(.imm, fun nn _ => .ldyImm nn), (.zp, fun zz _ => .ldyZp zz), (.zpx, fun zz _ => .ldyZpx zz),
      (.abs, fun ll hh => .ldyAbs (Machine.wordOf hh ll)), (.absx, fun ll hh => .ldyAbsx (Machine.wordOf hh ll))]
  | .lsr => [(.acc, fun _ _ => .lsrAcc), (.zp, fun zz _ => .lsrZp zz), (.zpx, fun zz _ => .lsrZpx zz),
      (.abs, fun ll hh => .lsrAbs (Machine.wordOf hh ll)), (.absx, fun ll hh => .lsrAbsx (Machine.wordOf hh ll))]
  | .nop => [(.imp, fun _ _ => .nop)]
  | .ora => [(.imm, fun nn _ => .oraImm nn), (.zp, fun zz _ => .oraZp zz), (.zpx, fun zz _ => .oraZpx zz),
      (.abs, fun ll hh => .oraAbs (Machine.wordOf hh ll)), (.absx, fun ll hh => .oraAbsx (Machine.wordOf hh ll)),
      (.absy, fun ll hh => .oraAbsy (Machine.wordOf hh ll)), (.zpind, fun zz _ => .oraZpind zz),
      (.zpindx, fun zz _ => .oraZpindx zz), (.zpindy, fun zz _ => .oraZpindy zz)]
  | .pha => [(.imp, fun _ _ => .pha)]
  | .php => [(.imp, fun _ _ => .php)]
  | .phx => [(.imp, fun _ _ => .phx)]
  | .phy => [(.imp, fun _ _ => .phy)]
  | .pla => [(.imp, fun _ _ => .pla)]
  | .plp => [(.imp, fun _ _ => .plp)]
  | .plx => [(.imp, fun _ _ => .plx)]
  | .ply => [(.imp, fun _ _ => .ply)]
  | .rol => [(.acc, fun _ _ => .rolAcc), (.zp, fun zz _ => .rolZp zz), (.zpx, fun zz _ => .rolZpx zz),
      (.abs, fun ll hh => .rolAbs (Machine.wordOf hh ll)), (.absx, fun ll hh => .rolAbsx (Machine.wordOf hh ll))]
  | .ror => [(.acc, fun _ _ => .rorAcc), (.zp, fun zz _ => .rorZp zz), (.zpx, fun zz _ => .rorZpx zz),
      (.abs, fun ll hh => .rorAbs (Machine.wordOf hh ll)), (.absx, fun ll hh => .rorAbsx (Machine.wordOf hh ll))]
  | .rti => [(.imp, fun _ _ => .rti)]
  | .rts => [(.imp, fun _ _ => .rts)]
  | .sbc => [(.imm, fun nn _ => .sbcImm nn), (.zp, fun zz _ => .sbcZp zz), (.zpx, fun zz _ => .sbcZpx zz),
      (.abs, fun ll hh => .sbcAbs (Machine.wordOf hh ll)), (.absx, fun ll hh => .sbcAbsx (Machine.wordOf hh ll)),
      (.absy, fun ll hh => .sbcAbsy (Machine.wordOf hh ll)), (.zpind, fun zz _ => .sbcZpind zz),
      (.zpindx, fun zz _ => .sbcZpindx zz), (.zpindy, fun zz _ => .sbcZpindy zz)]
  | .sec => [(.imp, fun _ _ => .sec)]
  | .sed => [(.imp, fun _ _ => .sed)]
  | .sei => [(.imp, fun _ _ => .sei)]
  | .sta => [(.zp, fun zz _ => .staZp zz), (.zpx, fun zz _ => .staZpx zz),
      (.abs, fun ll hh => .staAbs (Machine.wordOf hh ll)), (.absx, fun ll hh => .staAbsx (Machine.wordOf hh ll)),
      (.absy, fun ll hh => .staAbsy (Machine.wordOf hh ll)), (.zpind, fun zz _ => .staZpind zz),
      (.zpindx, fun zz _ => .staZpindx zz), (.zpindy, fun zz _ => .staZpindy zz)]
  | .stx => [(.zp, fun zz _ => .stxZp zz), (.zpy, fun zz _ => .stxZpy zz),
      (.abs, fun ll hh => .stxAbs (Machine.wordOf hh ll))]
  | .sty => [(.zp, fun zz _ => .styZp zz), (.zpx, fun zz _ => .styZpx zz),
      (.abs, fun ll hh => .styAbs (Machine.wordOf hh ll))]
  | .stz => [(.zp, fun zz _ => .stzZp zz), (.zpx, fun zz _ => .stzZpx zz),
      (.abs, fun ll hh => .stzAbs (Machine.wordOf hh ll)), (.absx, fun ll hh => .stzAbsx (Machine.wordOf hh ll))]
  | .tax => [(.imp, fun _ _ => .tax)]
  | .tay => [(.imp, fun _ _ => .tay)]
  | .trb => [(.zp, fun zz _ => .trbZp zz), (.abs, fun ll hh => .trbAbs (Machine.wordOf hh ll))]
  | .tsb => [(.zp, fun zz _ => .tsbZp zz), (.abs, fun ll hh => .tsbAbs (Machine.wordOf hh ll))]
  | .tsx => [(.imp, fun _ _ => .tsx)]
  | .txa => [(.imp, fun _ _ => .txa)]
  | .txs => [(.imp, fun _ _ => .txs)]
  | .tya => [(.imp, fun _ _ => .tya)]
  | .rmb n => [(.zp, rmbForm n)]
  | .smb n => [(.zp, smbForm n)]
  | .bbr n => [(.zprel, bbrForm n)]
  | .bbs n => [(.zprel, bbsForm n)]
  | .undefined => []

/-- The instruction of a mode in a list of forms. -/
def formIn : List (Mode × Form) → Mode → Option Form
  | [], _ => none
  | (m, f) :: rest, mode => if m = mode then some f else formIn rest mode

/-- The undefined opcodes below `0x80` (rule R68). -/
def undefinedLow : List (Byte × Instr) :=
  [(0x02#8, .und02), (0x03#8, .und03), (0x0B#8, .und0B), (0x13#8, .und13), (0x1B#8, .und1B), (0x22#8, .und22),
   (0x23#8, .und23), (0x2B#8, .und2B), (0x33#8, .und33), (0x3B#8, .und3B), (0x42#8, .und42), (0x43#8, .und43),
   (0x44#8, .und44), (0x4B#8, .und4B), (0x53#8, .und53), (0x54#8, .und54), (0x5B#8, .und5B), (0x5C#8, .und5C),
   (0x62#8, .und62), (0x63#8, .und63), (0x6B#8, .und6B), (0x73#8, .und73), (0x7B#8, .und7B)]

/-- The undefined opcodes from `0x80` on (rule R68). -/
def undefinedHigh : List (Byte × Instr) :=
  [(0x82#8, .und82), (0x83#8, .und83), (0x8B#8, .und8B), (0x93#8, .und93), (0x9B#8, .und9B), (0xA3#8, .undA3),
   (0xAB#8, .undAB), (0xB3#8, .undB3), (0xBB#8, .undBB), (0xC2#8, .undC2), (0xC3#8, .undC3), (0xCB#8, .undCB),
   (0xD3#8, .undD3), (0xD4#8, .undD4), (0xDB#8, .undDB), (0xDC#8, .undDC), (0xE2#8, .undE2), (0xE3#8, .undE3),
   (0xEB#8, .undEB), (0xF3#8, .undF3), (0xF4#8, .undF4), (0xFB#8, .undFB), (0xFC#8, .undFC)]

/-- The row of an undefined opcode byte in a list of rows. -/
def undefinedIn : List (Byte × Instr) → Byte → Option Instr
  | [], _ => none
  | (b, i) :: rest, op => if b = op then some i else undefinedIn rest op

/-- The instruction of an opcode byte without a mnemonic (rule R68). A byte outside the 46 never comes here under the table
of rule R64; a table that sends one here stops the run (log entry 14). -/
def undefinedInstr (op : Byte) : Instr := (undefinedIn (undefinedLow ++ undefinedHigh) op).getD .und03

/-- The form that a mnemonic and a mode select. -/
def formOf (mn : Mnemonic) (mode : Option Mode) : Option Form :=
  match mode with
  | some m => formIn (formsOf mn) m
  | none => none

/-- The instruction of an opcode byte with operand bytes `b1`, `b2`. A lookup of `MNEM[op]` and `MODE[op]` and nothing else
(rules R62, R121). -/
def decode (op b1 b2 : Byte) : Instr :=
  match formOf (descriptor op).mnemonic (descriptor op).mode with
  | some f => f b1 b2
  | none => undefinedInstr op

/-- Why a string of bytes holds no instruction. -/
inductive DecodeError where
  /-- there is no opcode byte -/
  | noBytes
  /-- fewer bytes than `LEN[op]` -/
  | truncated (op : Byte)
  deriving DecidableEq, Repr

/-- Reads one instruction of `LEN[op]` bytes from a string of bytes and gives the rest (rules R60, R62). -/
def decodeBytes : List Byte → Except DecodeError (Instr × List Byte)
  | [] => .error .noBytes
  | op :: rest =>
    let len := (descriptor op).length
    if rest.length + 1 < len then .error (.truncated op)
    else .ok (decode op (rest.getD 0 0#8) (rest.getD 1 0#8), rest.drop (len - 1))

/-! ### The encoder (rules R60 to R64) -/

/-- The opcode byte of an instruction (rule R64). -/
def Instr.opcode : Instr → Byte
  | .brk => 0x00#8
  | .oraZpindx _ => 0x01#8
  | .und02 => 0x02#8
  | .und03 => 0x03#8
  | .tsbZp _ => 0x04#8
  | .oraZp _ => 0x05#8
  | .aslZp _ => 0x06#8
  | .rmb0 _ => 0x07#8
  | .php => 0x08#8
  | .oraImm _ => 0x09#8
  | .aslAcc => 0x0A#8
  | .und0B => 0x0B#8
  | .tsbAbs _ => 0x0C#8
  | .oraAbs _ => 0x0D#8
  | .aslAbs _ => 0x0E#8
  | .bbr0 _ _ => 0x0F#8
  | .bpl _ => 0x10#8
  | .oraZpindy _ => 0x11#8
  | .oraZpind _ => 0x12#8
  | .und13 => 0x13#8
  | .trbZp _ => 0x14#8
  | .oraZpx _ => 0x15#8
  | .aslZpx _ => 0x16#8
  | .rmb1 _ => 0x17#8
  | .clc => 0x18#8
  | .oraAbsy _ => 0x19#8
  | .incAcc => 0x1A#8
  | .und1B => 0x1B#8
  | .trbAbs _ => 0x1C#8
  | .oraAbsx _ => 0x1D#8
  | .aslAbsx _ => 0x1E#8
  | .bbr1 _ _ => 0x1F#8
  | .jsrAbs _ => 0x20#8
  | .andZpindx _ => 0x21#8
  | .und22 => 0x22#8
  | .und23 => 0x23#8
  | .bitZp _ => 0x24#8
  | .andZp _ => 0x25#8
  | .rolZp _ => 0x26#8
  | .rmb2 _ => 0x27#8
  | .plp => 0x28#8
  | .andImm _ => 0x29#8
  | .rolAcc => 0x2A#8
  | .und2B => 0x2B#8
  | .bitAbs _ => 0x2C#8
  | .andAbs _ => 0x2D#8
  | .rolAbs _ => 0x2E#8
  | .bbr2 _ _ => 0x2F#8
  | .bmi _ => 0x30#8
  | .andZpindy _ => 0x31#8
  | .andZpind _ => 0x32#8
  | .und33 => 0x33#8
  | .bitZpx _ => 0x34#8
  | .andZpx _ => 0x35#8
  | .rolZpx _ => 0x36#8
  | .rmb3 _ => 0x37#8
  | .sec => 0x38#8
  | .andAbsy _ => 0x39#8
  | .decAcc => 0x3A#8
  | .und3B => 0x3B#8
  | .bitAbsx _ => 0x3C#8
  | .andAbsx _ => 0x3D#8
  | .rolAbsx _ => 0x3E#8
  | .bbr3 _ _ => 0x3F#8
  | .rti => 0x40#8
  | .eorZpindx _ => 0x41#8
  | .und42 => 0x42#8
  | .und43 => 0x43#8
  | .und44 => 0x44#8
  | .eorZp _ => 0x45#8
  | .lsrZp _ => 0x46#8
  | .rmb4 _ => 0x47#8
  | .pha => 0x48#8
  | .eorImm _ => 0x49#8
  | .lsrAcc => 0x4A#8
  | .und4B => 0x4B#8
  | .jmpAbs _ => 0x4C#8
  | .eorAbs _ => 0x4D#8
  | .lsrAbs _ => 0x4E#8
  | .bbr4 _ _ => 0x4F#8
  | .bvc _ => 0x50#8
  | .eorZpindy _ => 0x51#8
  | .eorZpind _ => 0x52#8
  | .und53 => 0x53#8
  | .und54 => 0x54#8
  | .eorZpx _ => 0x55#8
  | .lsrZpx _ => 0x56#8
  | .rmb5 _ => 0x57#8
  | .cli => 0x58#8
  | .eorAbsy _ => 0x59#8
  | .phy => 0x5A#8
  | .und5B => 0x5B#8
  | .und5C => 0x5C#8
  | .eorAbsx _ => 0x5D#8
  | .lsrAbsx _ => 0x5E#8
  | .bbr5 _ _ => 0x5F#8
  | .rts => 0x60#8
  | .adcZpindx _ => 0x61#8
  | .und62 => 0x62#8
  | .und63 => 0x63#8
  | .stzZp _ => 0x64#8
  | .adcZp _ => 0x65#8
  | .rorZp _ => 0x66#8
  | .rmb6 _ => 0x67#8
  | .pla => 0x68#8
  | .adcImm _ => 0x69#8
  | .rorAcc => 0x6A#8
  | .und6B => 0x6B#8
  | .jmpInd _ => 0x6C#8
  | .adcAbs _ => 0x6D#8
  | .rorAbs _ => 0x6E#8
  | .bbr6 _ _ => 0x6F#8
  | .bvs _ => 0x70#8
  | .adcZpindy _ => 0x71#8
  | .adcZpind _ => 0x72#8
  | .und73 => 0x73#8
  | .stzZpx _ => 0x74#8
  | .adcZpx _ => 0x75#8
  | .rorZpx _ => 0x76#8
  | .rmb7 _ => 0x77#8
  | .sei => 0x78#8
  | .adcAbsy _ => 0x79#8
  | .ply => 0x7A#8
  | .und7B => 0x7B#8
  | .jmpAbsindx _ => 0x7C#8
  | .adcAbsx _ => 0x7D#8
  | .rorAbsx _ => 0x7E#8
  | .bbr7 _ _ => 0x7F#8
  | .bra _ => 0x80#8
  | .staZpindx _ => 0x81#8
  | .und82 => 0x82#8
  | .und83 => 0x83#8
  | .styZp _ => 0x84#8
  | .staZp _ => 0x85#8
  | .stxZp _ => 0x86#8
  | .smb0 _ => 0x87#8
  | .dey => 0x88#8
  | .bitImm _ => 0x89#8
  | .txa => 0x8A#8
  | .und8B => 0x8B#8
  | .styAbs _ => 0x8C#8
  | .staAbs _ => 0x8D#8
  | .stxAbs _ => 0x8E#8
  | .bbs0 _ _ => 0x8F#8
  | .bcc _ => 0x90#8
  | .staZpindy _ => 0x91#8
  | .staZpind _ => 0x92#8
  | .und93 => 0x93#8
  | .styZpx _ => 0x94#8
  | .staZpx _ => 0x95#8
  | .stxZpy _ => 0x96#8
  | .smb1 _ => 0x97#8
  | .tya => 0x98#8
  | .staAbsy _ => 0x99#8
  | .txs => 0x9A#8
  | .und9B => 0x9B#8
  | .stzAbs _ => 0x9C#8
  | .staAbsx _ => 0x9D#8
  | .stzAbsx _ => 0x9E#8
  | .bbs1 _ _ => 0x9F#8
  | .ldyImm _ => 0xA0#8
  | .ldaZpindx _ => 0xA1#8
  | .ldxImm _ => 0xA2#8
  | .undA3 => 0xA3#8
  | .ldyZp _ => 0xA4#8
  | .ldaZp _ => 0xA5#8
  | .ldxZp _ => 0xA6#8
  | .smb2 _ => 0xA7#8
  | .tay => 0xA8#8
  | .ldaImm _ => 0xA9#8
  | .tax => 0xAA#8
  | .undAB => 0xAB#8
  | .ldyAbs _ => 0xAC#8
  | .ldaAbs _ => 0xAD#8
  | .ldxAbs _ => 0xAE#8
  | .bbs2 _ _ => 0xAF#8
  | .bcs _ => 0xB0#8
  | .ldaZpindy _ => 0xB1#8
  | .ldaZpind _ => 0xB2#8
  | .undB3 => 0xB3#8
  | .ldyZpx _ => 0xB4#8
  | .ldaZpx _ => 0xB5#8
  | .ldxZpy _ => 0xB6#8
  | .smb3 _ => 0xB7#8
  | .clv => 0xB8#8
  | .ldaAbsy _ => 0xB9#8
  | .tsx => 0xBA#8
  | .undBB => 0xBB#8
  | .ldyAbsx _ => 0xBC#8
  | .ldaAbsx _ => 0xBD#8
  | .ldxAbsy _ => 0xBE#8
  | .bbs3 _ _ => 0xBF#8
  | .cpyImm _ => 0xC0#8
  | .cmpZpindx _ => 0xC1#8
  | .undC2 => 0xC2#8
  | .undC3 => 0xC3#8
  | .cpyZp _ => 0xC4#8
  | .cmpZp _ => 0xC5#8
  | .decZp _ => 0xC6#8
  | .smb4 _ => 0xC7#8
  | .iny => 0xC8#8
  | .cmpImm _ => 0xC9#8
  | .dex => 0xCA#8
  | .undCB => 0xCB#8
  | .cpyAbs _ => 0xCC#8
  | .cmpAbs _ => 0xCD#8
  | .decAbs _ => 0xCE#8
  | .bbs4 _ _ => 0xCF#8
  | .bne _ => 0xD0#8
  | .cmpZpindy _ => 0xD1#8
  | .cmpZpind _ => 0xD2#8
  | .undD3 => 0xD3#8
  | .undD4 => 0xD4#8
  | .cmpZpx _ => 0xD5#8
  | .decZpx _ => 0xD6#8
  | .smb5 _ => 0xD7#8
  | .cld => 0xD8#8
  | .cmpAbsy _ => 0xD9#8
  | .phx => 0xDA#8
  | .undDB => 0xDB#8
  | .undDC => 0xDC#8
  | .cmpAbsx _ => 0xDD#8
  | .decAbsx _ => 0xDE#8
  | .bbs5 _ _ => 0xDF#8
  | .cpxImm _ => 0xE0#8
  | .sbcZpindx _ => 0xE1#8
  | .undE2 => 0xE2#8
  | .undE3 => 0xE3#8
  | .cpxZp _ => 0xE4#8
  | .sbcZp _ => 0xE5#8
  | .incZp _ => 0xE6#8
  | .smb6 _ => 0xE7#8
  | .inx => 0xE8#8
  | .sbcImm _ => 0xE9#8
  | .nop => 0xEA#8
  | .undEB => 0xEB#8
  | .cpxAbs _ => 0xEC#8
  | .sbcAbs _ => 0xED#8
  | .incAbs _ => 0xEE#8
  | .bbs6 _ _ => 0xEF#8
  | .beq _ => 0xF0#8
  | .sbcZpindy _ => 0xF1#8
  | .sbcZpind _ => 0xF2#8
  | .undF3 => 0xF3#8
  | .undF4 => 0xF4#8
  | .sbcZpx _ => 0xF5#8
  | .incZpx _ => 0xF6#8
  | .smb7 _ => 0xF7#8
  | .sed => 0xF8#8
  | .sbcAbsy _ => 0xF9#8
  | .plx => 0xFA#8
  | .undFB => 0xFB#8
  | .undFC => 0xFC#8
  | .sbcAbsx _ => 0xFD#8
  | .incAbsx _ => 0xFE#8
  | .bbs7 _ _ => 0xFF#8

/-- The operand of an instruction in its addressing mode; an undefined opcode has none (rules R61, R64, R98). -/
def Instr.operand : Instr → Option Operand
  | .brk => some .imp
  | .oraZpindx zz => some (.mem (.zpindx zz))
  | .und02 => none
  | .und03 => none
  | .tsbZp zz => some (.mem (.zp zz))
  | .oraZp zz => some (.mem (.zp zz))
  | .aslZp zz => some (.mem (.zp zz))
  | .rmb0 zz => some (.mem (.zp zz))
  | .php => some .imp
  | .oraImm nn => some (.mem (.imm nn))
  | .aslAcc => some .acc
  | .und0B => none
  | .tsbAbs addr => some (.mem (.abs addr))
  | .oraAbs addr => some (.mem (.abs addr))
  | .aslAbs addr => some (.mem (.abs addr))
  | .bbr0 zz off => some (.zprel zz off)
  | .bpl off => some (.rel off)
  | .oraZpindy zz => some (.mem (.zpindy zz))
  | .oraZpind zz => some (.mem (.zpind zz))
  | .und13 => none
  | .trbZp zz => some (.mem (.zp zz))
  | .oraZpx zz => some (.mem (.zpx zz))
  | .aslZpx zz => some (.mem (.zpx zz))
  | .rmb1 zz => some (.mem (.zp zz))
  | .clc => some .imp
  | .oraAbsy addr => some (.mem (.absy addr))
  | .incAcc => some .acc
  | .und1B => none
  | .trbAbs addr => some (.mem (.abs addr))
  | .oraAbsx addr => some (.mem (.absx addr))
  | .aslAbsx addr => some (.mem (.absx addr))
  | .bbr1 zz off => some (.zprel zz off)
  | .jsrAbs addr => some (.mem (.abs addr))
  | .andZpindx zz => some (.mem (.zpindx zz))
  | .und22 => none
  | .und23 => none
  | .bitZp zz => some (.mem (.zp zz))
  | .andZp zz => some (.mem (.zp zz))
  | .rolZp zz => some (.mem (.zp zz))
  | .rmb2 zz => some (.mem (.zp zz))
  | .plp => some .imp
  | .andImm nn => some (.mem (.imm nn))
  | .rolAcc => some .acc
  | .und2B => none
  | .bitAbs addr => some (.mem (.abs addr))
  | .andAbs addr => some (.mem (.abs addr))
  | .rolAbs addr => some (.mem (.abs addr))
  | .bbr2 zz off => some (.zprel zz off)
  | .bmi off => some (.rel off)
  | .andZpindy zz => some (.mem (.zpindy zz))
  | .andZpind zz => some (.mem (.zpind zz))
  | .und33 => none
  | .bitZpx zz => some (.mem (.zpx zz))
  | .andZpx zz => some (.mem (.zpx zz))
  | .rolZpx zz => some (.mem (.zpx zz))
  | .rmb3 zz => some (.mem (.zp zz))
  | .sec => some .imp
  | .andAbsy addr => some (.mem (.absy addr))
  | .decAcc => some .acc
  | .und3B => none
  | .bitAbsx addr => some (.mem (.absx addr))
  | .andAbsx addr => some (.mem (.absx addr))
  | .rolAbsx addr => some (.mem (.absx addr))
  | .bbr3 zz off => some (.zprel zz off)
  | .rti => some .imp
  | .eorZpindx zz => some (.mem (.zpindx zz))
  | .und42 => none
  | .und43 => none
  | .und44 => none
  | .eorZp zz => some (.mem (.zp zz))
  | .lsrZp zz => some (.mem (.zp zz))
  | .rmb4 zz => some (.mem (.zp zz))
  | .pha => some .imp
  | .eorImm nn => some (.mem (.imm nn))
  | .lsrAcc => some .acc
  | .und4B => none
  | .jmpAbs addr => some (.mem (.abs addr))
  | .eorAbs addr => some (.mem (.abs addr))
  | .lsrAbs addr => some (.mem (.abs addr))
  | .bbr4 zz off => some (.zprel zz off)
  | .bvc off => some (.rel off)
  | .eorZpindy zz => some (.mem (.zpindy zz))
  | .eorZpind zz => some (.mem (.zpind zz))
  | .und53 => none
  | .und54 => none
  | .eorZpx zz => some (.mem (.zpx zz))
  | .lsrZpx zz => some (.mem (.zpx zz))
  | .rmb5 zz => some (.mem (.zp zz))
  | .cli => some .imp
  | .eorAbsy addr => some (.mem (.absy addr))
  | .phy => some .imp
  | .und5B => none
  | .und5C => none
  | .eorAbsx addr => some (.mem (.absx addr))
  | .lsrAbsx addr => some (.mem (.absx addr))
  | .bbr5 zz off => some (.zprel zz off)
  | .rts => some .imp
  | .adcZpindx zz => some (.mem (.zpindx zz))
  | .und62 => none
  | .und63 => none
  | .stzZp zz => some (.mem (.zp zz))
  | .adcZp zz => some (.mem (.zp zz))
  | .rorZp zz => some (.mem (.zp zz))
  | .rmb6 zz => some (.mem (.zp zz))
  | .pla => some .imp
  | .adcImm nn => some (.mem (.imm nn))
  | .rorAcc => some .acc
  | .und6B => none
  | .jmpInd addr => some (.mem (.ind addr))
  | .adcAbs addr => some (.mem (.abs addr))
  | .rorAbs addr => some (.mem (.abs addr))
  | .bbr6 zz off => some (.zprel zz off)
  | .bvs off => some (.rel off)
  | .adcZpindy zz => some (.mem (.zpindy zz))
  | .adcZpind zz => some (.mem (.zpind zz))
  | .und73 => none
  | .stzZpx zz => some (.mem (.zpx zz))
  | .adcZpx zz => some (.mem (.zpx zz))
  | .rorZpx zz => some (.mem (.zpx zz))
  | .rmb7 zz => some (.mem (.zp zz))
  | .sei => some .imp
  | .adcAbsy addr => some (.mem (.absy addr))
  | .ply => some .imp
  | .und7B => none
  | .jmpAbsindx addr => some (.mem (.absindx addr))
  | .adcAbsx addr => some (.mem (.absx addr))
  | .rorAbsx addr => some (.mem (.absx addr))
  | .bbr7 zz off => some (.zprel zz off)
  | .bra off => some (.rel off)
  | .staZpindx zz => some (.mem (.zpindx zz))
  | .und82 => none
  | .und83 => none
  | .styZp zz => some (.mem (.zp zz))
  | .staZp zz => some (.mem (.zp zz))
  | .stxZp zz => some (.mem (.zp zz))
  | .smb0 zz => some (.mem (.zp zz))
  | .dey => some .imp
  | .bitImm nn => some (.mem (.imm nn))
  | .txa => some .imp
  | .und8B => none
  | .styAbs addr => some (.mem (.abs addr))
  | .staAbs addr => some (.mem (.abs addr))
  | .stxAbs addr => some (.mem (.abs addr))
  | .bbs0 zz off => some (.zprel zz off)
  | .bcc off => some (.rel off)
  | .staZpindy zz => some (.mem (.zpindy zz))
  | .staZpind zz => some (.mem (.zpind zz))
  | .und93 => none
  | .styZpx zz => some (.mem (.zpx zz))
  | .staZpx zz => some (.mem (.zpx zz))
  | .stxZpy zz => some (.mem (.zpy zz))
  | .smb1 zz => some (.mem (.zp zz))
  | .tya => some .imp
  | .staAbsy addr => some (.mem (.absy addr))
  | .txs => some .imp
  | .und9B => none
  | .stzAbs addr => some (.mem (.abs addr))
  | .staAbsx addr => some (.mem (.absx addr))
  | .stzAbsx addr => some (.mem (.absx addr))
  | .bbs1 zz off => some (.zprel zz off)
  | .ldyImm nn => some (.mem (.imm nn))
  | .ldaZpindx zz => some (.mem (.zpindx zz))
  | .ldxImm nn => some (.mem (.imm nn))
  | .undA3 => none
  | .ldyZp zz => some (.mem (.zp zz))
  | .ldaZp zz => some (.mem (.zp zz))
  | .ldxZp zz => some (.mem (.zp zz))
  | .smb2 zz => some (.mem (.zp zz))
  | .tay => some .imp
  | .ldaImm nn => some (.mem (.imm nn))
  | .tax => some .imp
  | .undAB => none
  | .ldyAbs addr => some (.mem (.abs addr))
  | .ldaAbs addr => some (.mem (.abs addr))
  | .ldxAbs addr => some (.mem (.abs addr))
  | .bbs2 zz off => some (.zprel zz off)
  | .bcs off => some (.rel off)
  | .ldaZpindy zz => some (.mem (.zpindy zz))
  | .ldaZpind zz => some (.mem (.zpind zz))
  | .undB3 => none
  | .ldyZpx zz => some (.mem (.zpx zz))
  | .ldaZpx zz => some (.mem (.zpx zz))
  | .ldxZpy zz => some (.mem (.zpy zz))
  | .smb3 zz => some (.mem (.zp zz))
  | .clv => some .imp
  | .ldaAbsy addr => some (.mem (.absy addr))
  | .tsx => some .imp
  | .undBB => none
  | .ldyAbsx addr => some (.mem (.absx addr))
  | .ldaAbsx addr => some (.mem (.absx addr))
  | .ldxAbsy addr => some (.mem (.absy addr))
  | .bbs3 zz off => some (.zprel zz off)
  | .cpyImm nn => some (.mem (.imm nn))
  | .cmpZpindx zz => some (.mem (.zpindx zz))
  | .undC2 => none
  | .undC3 => none
  | .cpyZp zz => some (.mem (.zp zz))
  | .cmpZp zz => some (.mem (.zp zz))
  | .decZp zz => some (.mem (.zp zz))
  | .smb4 zz => some (.mem (.zp zz))
  | .iny => some .imp
  | .cmpImm nn => some (.mem (.imm nn))
  | .dex => some .imp
  | .undCB => none
  | .cpyAbs addr => some (.mem (.abs addr))
  | .cmpAbs addr => some (.mem (.abs addr))
  | .decAbs addr => some (.mem (.abs addr))
  | .bbs4 zz off => some (.zprel zz off)
  | .bne off => some (.rel off)
  | .cmpZpindy zz => some (.mem (.zpindy zz))
  | .cmpZpind zz => some (.mem (.zpind zz))
  | .undD3 => none
  | .undD4 => none
  | .cmpZpx zz => some (.mem (.zpx zz))
  | .decZpx zz => some (.mem (.zpx zz))
  | .smb5 zz => some (.mem (.zp zz))
  | .cld => some .imp
  | .cmpAbsy addr => some (.mem (.absy addr))
  | .phx => some .imp
  | .undDB => none
  | .undDC => none
  | .cmpAbsx addr => some (.mem (.absx addr))
  | .decAbsx addr => some (.mem (.absx addr))
  | .bbs5 zz off => some (.zprel zz off)
  | .cpxImm nn => some (.mem (.imm nn))
  | .sbcZpindx zz => some (.mem (.zpindx zz))
  | .undE2 => none
  | .undE3 => none
  | .cpxZp zz => some (.mem (.zp zz))
  | .sbcZp zz => some (.mem (.zp zz))
  | .incZp zz => some (.mem (.zp zz))
  | .smb6 zz => some (.mem (.zp zz))
  | .inx => some .imp
  | .sbcImm nn => some (.mem (.imm nn))
  | .nop => some .imp
  | .undEB => none
  | .cpxAbs addr => some (.mem (.abs addr))
  | .sbcAbs addr => some (.mem (.abs addr))
  | .incAbs addr => some (.mem (.abs addr))
  | .bbs6 zz off => some (.zprel zz off)
  | .beq off => some (.rel off)
  | .sbcZpindy zz => some (.mem (.zpindy zz))
  | .sbcZpind zz => some (.mem (.zpind zz))
  | .undF3 => none
  | .undF4 => none
  | .sbcZpx zz => some (.mem (.zpx zz))
  | .incZpx zz => some (.mem (.zpx zz))
  | .smb7 zz => some (.mem (.zp zz))
  | .sed => some .imp
  | .sbcAbsy addr => some (.mem (.absy addr))
  | .plx => some .imp
  | .undFB => none
  | .undFC => none
  | .sbcAbsx addr => some (.mem (.absx addr))
  | .incAbsx addr => some (.mem (.absx addr))
  | .bbs7 zz off => some (.zprel zz off)

/-- The decoder-table entry of an instruction. -/
def Instr.descriptor (i : Instr) : Descriptor := Sys2Proof.descriptor i.opcode

/-- `MNEM` of an instruction. -/
def Instr.mnemonic (i : Instr) : Mnemonic := i.descriptor.mnemonic

/-- `MODE` of an instruction. -/
def Instr.mode (i : Instr) : Option Mode := i.descriptor.mode

/-- `LEN` of an instruction. -/
def Instr.length (i : Instr) : Nat := i.descriptor.length

/-- `BASE_CYCLES` of an instruction. -/
def Instr.baseCycles (i : Instr) : Nat := i.descriptor.baseCycles

/-- `FLAGMASK` of an instruction. -/
def Instr.flagMask (i : Instr) : FlagMask := i.descriptor.flagMask

/-- The operand bytes of an operand with an effective address, an address low byte first (rules R43, R61). -/
def MemOperand.bytes : MemOperand → List Byte
  | .imm b | .zp b | .zpx b | .zpy b | .zpind b | .zpindx b | .zpindy b => [b]
  | .abs w | .absx w | .absy w | .ind w | .absindx w => [Machine.loByte w, Machine.hiByte w]

/-- The operand bytes of an operand (rule R61). -/
def Operand.bytes : Operand → List Byte
  | .imp | .acc => []
  | .mem m => m.bytes
  | .rel off => [off]
  | .zprel zz off => [zz, off]

/-- The operand bytes of an instruction. -/
def Instr.operandBytes (i : Instr) : List Byte :=
  match i.operand with
  | some o => o.bytes
  | none => []

/-- The `LEN` bytes of an instruction: its opcode, its operand bytes, and `0x00` for the bytes its length counts and it
does not read (the padding of `BRK`, written `00` by rule R71; an undefined opcode's, rule R68). -/
def encode (i : Instr) : List Byte :=
  let bs := i.opcode :: i.operandBytes
  bs ++ List.replicate (i.length - bs.length) 0#8

/-! ### Words numbered as spec/opcode_table.json numbers them -/

/-- Byte `k` of a word of `nbits` bits (bits 8k+7 to 8k), every bit from `nbits` on being 0. -/
def tableByte (nbits w k : Nat) : Byte := BitVec.ofNat 8 ((w % 2 ^ nbits) / 2 ^ (8 * k))

/-- The three bytes, the longest instruction, of a table word, in the order they lie in memory. -/
def tableBytes (nbits w : Nat) : List Byte := [tableByte nbits w 0, tableByte nbits w 1, tableByte nbits w 2]

/-- The instruction the decoder reads from a table word. -/
def decodeTableWord (nbits w : Nat) : Option Instr :=
  match decodeBytes (tableBytes nbits w) with
  | .ok (i, _) => some i
  | .error _ => none

end Sys2Proof
end

