-- ==== Sys2Proof/Machine/Memory.lean ====
section
/-! DEFINITION. The 64 KB behind the memory bus as plain read-write memory (20_memory.md rules R36, R40, R46, R50;
92_eei_decisions.md D24; log entry 2): a list of cells in one canonical form. -/

namespace Sys2Proof.Machine

/-- The contents of the bus target: the cells that differ from `0x00`, by rising address. -/
abbrev Memory := List Host.Cell

/-- What an address that no cell lists reads as: `0x00` (95_test_vectors.md, Conventions; D24; log entry 2). -/
def unlisted : Byte := 0#8

/-- The byte at key `k`. -/
def Memory.lookup : List Host.Cell → Nat → Byte
  | [], _ => unlisted
  | (a, b) :: rest, k => if a = k then b else Memory.lookup rest k

/-- Puts the byte `v` at key `k`, keeping the keys rising. -/
def Memory.insert : List Host.Cell → Nat → Byte → List Host.Cell
  | [], k, v => [(k, v)]
  | (a, b) :: rest, k, v =>
    if k < a then (k, v) :: (a, b) :: rest
    else if k = a then (k, v) :: rest
    else (a, b) :: Memory.insert rest k v

/-- Takes every cell of key `k` out. -/
def Memory.erase : List Host.Cell → Nat → List Host.Cell
  | [], _ => []
  | (a, b) :: rest, k => if a = k then Memory.erase rest k else (a, b) :: Memory.erase rest k

/-- What the bus target answers to a byte read (rule R40). -/
def Memory.read (m : Memory) (a : Address) : Byte := Memory.lookup m a.toNat

/-- The bus target after a byte write (rule R40); a byte equal to `unlisted` leaves no cell. -/
def Memory.write (m : Memory) (a : Address) (v : Byte) : Memory :=
  if v = unlisted then Memory.erase m a.toNat else Memory.insert m a.toNat v

/-- The little-endian word at `a`, its high byte at `(a + 1) mod 65536` (rules R41, R43). -/
def Memory.word (m : Memory) (a : Address) : Address := wordOf (m.read (a + 1#16)) (m.read a)

/-- Nothing listed: every address reads as `unlisted`. -/
def Memory.empty : Memory := []

/-- The keys rise from at least `low`, every key is an address, no cell holds `unlisted`. -/
def Memory.wfFrom : Nat → List Host.Cell → Bool
  | _, [] => true
  | low, (a, b) :: rest => decide (low ≤ a) && decide (a < 65536) && decide (b ≠ unlisted) && Memory.wfFrom (a + 1) rest

/-- The canonical form: strictly rising addresses below 65536, no cell equal to what an unlisted address reads as. -/
def Memory.wf (m : Memory) : Bool := Memory.wfFrom 0 m

end Sys2Proof.Machine
end

