-- ==== Sys2Proof/Machine/State.lean ====
section
/-! DEFINITION. The state of one instance (10_state.md rule R20), the reasons a step can stop, and the state after reset.

Beside the state of rule R20 it holds two things that rule R20 puts outside the block: the contents of the bus target
(`mem`, log entry 2) and the bus transactions of the current control transaction (`bus`, the model's own record of what
20_memory.md rule R47 orders; log entry 4). No instruction reads `bus`. -/

namespace Sys2Proof.Machine

/-- The six one-bit flags, "never treated as raw bitmasks internally" (rule R26). -/
structure Flags where
  /-- Negative (rule R27) -/
  n : Bool
  /-- Overflow (rule R28) -/
  v : Bool
  /-- Decimal-mode (rule R29) -/
  d : Bool
  /-- Interrupt-disable (rule R30) -/
  i : Bool
  /-- Zero (rule R31) -/
  z : Bool
  /-- Carry (rule R32) -/
  c : Bool
  deriving DecidableEq, Repr

/-- One transaction on the memory bus (00_scope.md rule R9). -/
inductive BusAccess where
  /-- `MemRead(addr)` and the byte received -/
  | read (addr : Address) (value : Byte)
  /-- `MemWrite(addr, value)` -/
  | write (addr : Address) (value : Byte)
  deriving DecidableEq, Repr

/-- One processor instance (rule R20), the bus target's contents, and the current transaction's bus accesses. -/
structure State where
  /-- `PC`, between steps the address of the next opcode byte (rule R25) -/
  pc : Address
  /-- `A`, the accumulator (rule R21) -/
  a : Byte
  /-- `X` (rule R22) -/
  x : Byte
  /-- `Y` (rule R23) -/
  y : Byte
  /-- `SP`, the index of the next free byte of the stack page (rule R24) -/
  sp : Byte
  /-- `N V D I Z C` (rule R26) -/
  flags : Flags
  /-- `CYC`, the cycle counter (rule R34) -/
  cyc : CycleCount
  /-- `DEPTH`, the call-depth counter, an unbounded signed integer (rule R35) -/
  depth : Int
  /-- the contents of the bus target (rule R46, D24; log entry 2) -/
  mem : Memory
  /-- the bus transactions of the current control transaction, oldest first (rule R47; log entry 4) -/
  bus : List BusAccess
  deriving DecidableEq, Repr

/-- The faults of the block: one (60_exceptions.md rules R129, R260). -/
inductive Fault where
  /-- `UndefinedOpcode(PC0, op)`, raised by the meaning of each of the 46 undefined opcodes (rules R68, R260) while
  `UNDEF_POLICY = fault`. Safe: nothing can be proved of what such an opcode does. -/
  | undefinedOpcode (pc : Address) (op : Byte)
  deriving DecidableEq, Repr

/-- What the model does not accept. -/
inductive Refusal where
  /-- An arm of `exec` without a meaning would answer this. Safe. No arm does. -/
  | notModelled (mnemonic : String)
  /-- `Step()`, `Interrupt` or `InterruptAt` on an instance whose first `Reset()` has not run; raised by
  `Instance.handle` in Sys2Proof/Machine/Driver.lean, as rules R38 and R290 ask (D17). Safe. -/
  | beforeFirstReset
  deriving DecidableEq, Repr

/-- The machine right after `Init` and the first `Reset()` (rules R38, R291): the reset values of rule R38, `CYC = 0`
from `Init` (rule R290, D10), nothing listed in memory (log entry 2), and the two vector reads of `Reset()` on the bus. -/
def State.reset : State where
  pc := Memory.word Memory.empty config.vecReset
  a := 0x00#8
  x := 0x00#8
  y := 0x00#8
  sp := 0xFF#8
  flags := { n := false, v := false, d := false, i := true, z := true, c := false }
  cyc := 0#64
  depth := 0
  mem := Memory.empty
  bus := [.read config.vecReset (Memory.empty.read config.vecReset),
          .read (config.vecReset + 1#16) (Memory.empty.read (config.vecReset + 1#16))]

/-- The byte the bus target holds at `a`. -/
def State.peek (s : State) (a : Address) : Byte := s.mem.read a

/-- Writes `PC`. -/
def State.setPc (s : State) (v : Address) : State := { s with pc := v }
/-- Writes `A` (rule R21). -/
def State.setA (s : State) (v : Byte) : State := { s with a := v }
/-- Writes `X` (rule R22). -/
def State.setX (s : State) (v : Byte) : State := { s with x := v }
/-- Writes `Y` (rule R23). -/
def State.setY (s : State) (v : Byte) : State := { s with y := v }
/-- Writes `SP` (rule R24). -/
def State.setSp (s : State) (v : Byte) : State := { s with sp := v }
/-- Writes the six flags (rule R26). -/
def State.setFlags (s : State) (f : Flags) : State := { s with flags := f }
/-- Writes `CYC` (rule R34). -/
def State.setCyc (s : State) (v : CycleCount) : State := { s with cyc := v }
/-- Writes `DEPTH` (rule R35). -/
def State.setDepth (s : State) (v : Int) : State := { s with depth := v }
/-- Writes the bus target's contents. -/
def State.setMem (s : State) (m : Memory) : State := { s with mem := m }
/-- Writes the record of bus transactions (log entry 4). -/
def State.setBus (s : State) (l : List BusAccess) : State := { s with bus := l }

end Sys2Proof.Machine
end

