-- ==== Sys2Proof/Machine/Flags.lean ====
section
/-! DEFINITION. The arithmetic and flag unit (41_alu_flags.md): every flag computation of the spec. -/

namespace Sys2Proof.Machine

/-- What `AddWithCarry` and `SubWithCarry` return: `(r, cout, v)` (rule R100). -/
structure AluResult where
  /-- the result byte `r` -/
  result : Byte
  /-- the carry-out `cout` -/
  carry : Bool
  /-- the overflow bit `v` -/
  overflow : Bool
  deriving DecidableEq, Repr

/-- `Overflow(a, m, r)` (rule R101). -/
def overflow (a m r : Byte) : Bool := decide (((a ^^^ r) &&& (m ^^^ r) &&& 0x80#8) ≠ 0#8)

/-- The unbounded binary sum, 0 to 511 (rule R100). -/
def binarySum (a m : Byte) (cin : Bool) : Nat := a.toNat + m.toNat + cin.toNat

/-- `AddWithCarry(a, m, cin, dec)` (rule R100); the decimal sum is the parameter of 93_implementation_defined.md U3. -/
def addWithCarry (a m : Byte) (cin dec : Bool) : AluResult :=
  let sum := if dec then config.decimalSum a m cin else binarySum a m cin
  let r := BitVec.ofNat 8 sum
  { result := r, carry := decide (sum > 0xFF), overflow := overflow a m r }

/-- The operand `SubWithCarry` gives to the adder: the one's complement, or `(0x99 - m) mod 256` (rule R102). -/
def subtrahend (m : Byte) (dec : Bool) : Byte := if dec then 0x99#8 - m else m ^^^ 0xFF#8

/-- `SubWithCarry(a, m, cin, dec)` (rule R102). -/
def subWithCarry (a m : Byte) (cin dec : Bool) : AluResult := addWithCarry a (subtrahend m dec) cin dec

/-- The result byte of `Compare(reg, m)` (rule R105). -/
def compareResult (reg m : Byte) : Byte := reg - m

/-- The carry of `Compare(reg, m)`: `reg >= m`, unsigned (rule R105). -/
def compareCarry (reg m : Byte) : Bool := decide (m.toNat ≤ reg.toNat)

/-- `Pack(brk)` (rule R107): bit 5 is 1, bit 4 is `brk`. -/
def pack (brk : Bool) (f : Flags) : Byte :=
  flagBit f.n 7 ||| flagBit f.v 6 ||| flagBit true 5 ||| flagBit brk 4 |||
  flagBit f.d 3 ||| flagBit f.i 2 ||| flagBit f.z 1 ||| flagBit f.c 0

/-- `Unpack(b)` (rule R108): bits 5 and 4 are ignored. -/
def unpack (b : Byte) : Flags where
  n := b.getLsbD 7
  v := b.getLsbD 6
  d := b.getLsbD 3
  i := b.getLsbD 2
  z := b.getLsbD 1
  c := b.getLsbD 0

/-- `SetNZ(mask, r)`, the generic flag rule (rule R110). -/
def setNZ (mask : FlagMask) (r : Byte) (f : Flags) : Flags :=
  match mask with
  | .nz => { f with z := decide (r = 0#8), n := r.getLsbD 7 }
  | .n => { f with n := r.getLsbD 7 }
  | .none => f

/-- What a one-bit shift returns: `(r, cout)` (rule R111). -/
structure ShiftResult where
  /-- the result byte `r` -/
  result : Byte
  /-- the bit shifted out -/
  carry : Bool
  deriving DecidableEq, Repr

/-- `Asl(v)` (rule R111). -/
def asl (v : Byte) : ShiftResult := { result := v <<< 1, carry := v.getLsbD 7 }

/-- `Lsr(v)` (rule R111). -/
def lsr (v : Byte) : ShiftResult := { result := v >>> 1, carry := v.getLsbD 0 }

/-- `Rol(v, cin)` (rule R111). -/
def rol (v : Byte) (cin : Bool) : ShiftResult := { result := (v <<< 1) ||| flagBit cin 0, carry := v.getLsbD 7 }

/-- `Ror(v, cin)` (rule R111). -/
def ror (v : Byte) (cin : Bool) : ShiftResult := { result := (v >>> 1) ||| flagBit cin 7, carry := v.getLsbD 0 }

/-- `Inc(v) = (v + 1) mod 256` (rule R113). -/
def incByte (v : Byte) : Byte := v + 1#8

/-- `Dec(v) = (v - 1) mod 256` (rule R113). -/
def decByte (v : Byte) : Byte := v - 1#8

/-- Test: `(a & m) == 0` (rule R112). -/
def testZero (a m : Byte) : Bool := decide (a &&& m = 0#8)

/-- Bit set: `m | (1 << n)` (rule R112). -/
def withBit (n : Fin 8) (m : Byte) : Byte := m ||| (1#8 <<< n.val)

/-- Bit clear: `m & ~(1 << n)` (rule R112). -/
def withoutBit (n : Fin 8) (m : Byte) : Byte := m &&& ~~~(1#8 <<< n.val)

end Sys2Proof.Machine
end

