-- ==== Sys2Proof/Machine/Ops.lean ====
section
/-! DEFINITION. The shared operations over bus, stack and registers: bus primitives (20_memory.md rules R40 to R42),
stack primitives (42_execution_engine.md rules R125 to R128), taking an interrupt or trap and returning from one
(60_exceptions.md rules R261, R265), and the engine that runs an opcode's behaviour (rule R120). -/

namespace Sys2Proof.Machine

/-- What every meaning and `step` answer. -/
abbrev Result := Host.Outcome State Fault Refusal

/-- Records one bus transaction, the newest last (rule R47). -/
def State.logBus (s : State) (t : BusAccess) : State := s.setBus (s.bus ++ [t])

/-! ### The bus (rules R40 to R42) -/

/-- `MemRead(addr)` (rules R9, R40): the byte received and the state after the transaction. -/
def memRead (addr : Address) (s : State) : Byte × State := (s.peek addr, s.logBus (.read addr (s.peek addr)))

/-- `MemWrite(addr, v)` (rules R9, R40). -/
def memWrite (addr : Address) (v : Byte) (s : State) : State := (s.setMem (s.mem.write addr v)).logBus (.write addr v)

/-- `Read16(addr)`: low byte, then high byte at `(addr + 1) mod 65536` (rule R41). -/
def read16 (addr : Address) (s : State) : Address × State :=
  let lo := memRead addr s
  let hi := memRead (addr + 1#16) lo.2
  (wordOf hi.1 lo.1, hi.2)

/-- `Read16ZP(p)`: low byte at `p`, high byte at `(p + 1) mod 256` (rule R42). -/
def read16ZP (p : Byte) (s : State) : Address × State :=
  let lo := memRead (zext16 p) s
  let hi := memRead (zext16 (p + 1#8)) lo.2
  (wordOf hi.1 lo.1, hi.2)

/-! ### The stack (rules R24, R125 to R128) -/

/-- The address a stack pointer designates: `0x0100 + SP`, whatever `SP` is (rules R24, R48). -/
def stackAddress (sp : Byte) : Address := config.stackBase + zext16 sp

/-- `Push(v)`: write, then decrement (rule R125). -/
def push (v : Byte) (s : State) : State :=
  let s1 := memWrite (stackAddress s.sp) v s
  s1.setSp (s1.sp - 1#8)

/-- `Pull()`: increment, then read (rule R126). -/
def pull (s : State) : Byte × State :=
  let s1 := s.setSp (s.sp + 1#8)
  memRead (stackAddress s1.sp) s1

/-- `Push16(w)`: high byte first (rule R127). -/
def push16 (w : Address) (s : State) : State := push (loByte w) (push (hiByte w) s)

/-- `Pull16()`: low byte first (rule R128). -/
def pull16 (s : State) : Address × State :=
  let lo := pull s
  let hi := pull lo.2
  (wordOf hi.1 lo.1, hi.2)

/-! ### Taking an interrupt or trap, and returning from one -/

/-- The entry sequence shared by `BRK`, IRQ, NMI and `InterruptAt` (rule R261): `PC` and the packed status are pushed,
`I` is set, `D` is cleared, `PC` becomes `target`, `DEPTH` grows. `I` is not tested. -/
def interruptEntry (target : Address) (brk : Bool) (s : State) : State :=
  let s1 := push16 s.pc s
  let s2 := push (pack brk s1.flags) s1
  ((s2.setFlags { s2.flags with i := true, d := false }).setPc target).setDepth (s2.depth + 1)

/-- The return (rules R237, R265): the status is pulled and unpacked, then the word for `PC` is pulled, `DEPTH` falls.
Answers the word and the state. -/
def returnFromInterrupt (s : State) : Address × State :=
  let b := pull s
  let w := pull16 (b.2.setFlags (unpack b.1))
  (w.1, w.2.setDepth (w.2.depth - 1))

/-! ### The engine (rule R120, steps 3 to 5) -/

/-- What an opcode's behaviour answers in step 3 of rule R120: the state, the result byte `r` when it has one, and the
final program counter `next` when control is transferred. -/
structure Executed where
  /-- registers, explicit flags, memory and bus after the behaviour -/
  state : State
  /-- `r`, the result byte of the generic flag rule -/
  result : Option Byte
  /-- `next`, the final program counter of a control transfer -/
  next : Option Address
  deriving DecidableEq, Repr

/-- A behaviour that ends with the result byte `r`. -/
def Executed.withResult (s : State) (r : Byte) : Executed := { state := s, result := some r, next := none }

/-- A behaviour with neither a result byte nor a control transfer. -/
def Executed.plain (s : State) : Executed := { state := s, result := none, next := none }

/-- A behaviour that transfers control to `target`. -/
def Executed.jump (s : State) (target : Address) : Executed := { state := s, result := none, next := some target }

/-- Step 4 of rule R120: the generic flag rule on the result byte, when there is one (rules R37, R110). -/
def genericFlags (mask : FlagMask) (r : Option Byte) (s : State) : State :=
  match r with
  | some v => s.setFlags (setNZ mask v s.flags)
  | none => s

/-- Steps 3 to 5 of rule R120 for the opcode `op`: its behaviour, the generic flag rule, the program counter
(rule R123), the cycle counter (rule R124). -/
def runOpcode (op : Byte) (behaviour : State → Executed) (s : State) : Result :=
  let d := descriptor op
  let e := behaviour s
  let s1 := genericFlags d.flagMask e.result e.state
  let s2 := s1.setPc (e.next.getD (s.pc + BitVec.ofNat 16 d.length))
  .next (s2.setCyc (s2.cyc + BitVec.ofNat 64 d.baseCycles))

/-- A step on the undefined opcode `op` under a policy (rule R68). -/
def undefinedUnder (policy : UndefPolicy) (op : Byte) (s : State) : Result :=
  match policy with
  | .fault => .fault (.undefinedOpcode s.pc op)
  | .skip =>
    let d := descriptor op
    .next ((s.setPc (s.pc + BitVec.ofNat 16 d.length)).setCyc (s.cyc + BitVec.ofNat 64 d.baseCycles))

/-- A step on the undefined opcode `op`, under the policy of this machine (rules R68, R260; D6; log entry 5). -/
def undefinedOpcode (op : Byte) (s : State) : Result := undefinedUnder config.undefPolicy op s

end Sys2Proof.Machine
end

