-- ==== Sys2Proof/Machine/Operands.lean ====
section
/-! DEFINITION. The addressing-mode resolver (40_addressing_modes.md). The operand bytes have been read by the fetch
(Sys2Proof/Machine/Fetch.lean), as step 2 of 20_memory.md rule R47 orders them; what is left of the resolver is the
address arithmetic and the pointer reads. -/

namespace Sys2Proof.Machine

/-- `EA`, with the pointer reads it takes (rules R80, R83 to R94). It writes no register, no flag and no memory. -/
def effectiveAddress (m : MemOperand) (s : State) : Address × State :=
  match m with
  | .imm _ => (s.pc + 1#16, s)
  | .zp zz => (zext16 zz, s)
  | .zpx zz => (zext16 (zz + s.x), s)
  | .zpy zz => (zext16 (zz + s.y), s)
  | .abs addr => (addr, s)
  | .absx addr => (addr + zext16 s.x, s)
  | .absy addr => (addr + zext16 s.y, s)
  | .ind addr => read16 addr s
  | .absindx addr => read16 (addr + zext16 s.x) s
  | .zpind zz => read16ZP zz s
  | .zpindx zz => read16ZP (zz + s.x) s
  | .zpindy zz =>
    let base := read16ZP zz s
    (base.1 + zext16 s.y, base.2)

/-- `M <- MemRead(EA)` (files 43 to 46). The one read of an immediate operand has been made by the fetch, at
`EA = PC0 + 1`, so its byte is in the instruction (rule R83; log entry 6). -/
def readOperand (m : MemOperand) (s : State) : Byte × State :=
  match m with
  | .imm nn => (nn, s)
  | _ =>
    let ea := effectiveAddress m s
    memRead ea.1 ea.2

/-- The branch target: `(PC0 + len + sext_8(off)) mod 65536` (rules R95, R96). -/
def branchTarget (len : Nat) (off : Byte) (s : State) : Address := s.pc + BitVec.ofNat 16 len + sext16 off

end Sys2Proof.Machine
end

