-- ==== Sys2Proof/Machine/Arith.lean ====
section
/-! DEFINITION. Arithmetic, logic, compare, test and increment instructions (44_arithmetic_logic.md rules R160 to R176). -/

namespace Sys2Proof.Machine

/-- `A <- r; C <- cout; V <- v` (rules R160, R161). -/
def writeSum (sum : AluResult) (s : State) : Executed :=
  .withResult ((s.setA sum.result).setFlags { s.flags with c := sum.carry, v := sum.overflow }) sum.result

/-- `ADC` (rule R160). -/
def addToA (m : MemOperand) (s : State) : Executed :=
  let r := readOperand m s
  writeSum (addWithCarry s.a r.1 s.flags.c s.flags.d) r.2

/-- `SBC` (rule R161). -/
def subFromA (m : MemOperand) (s : State) : Executed :=
  let r := readOperand m s
  writeSum (subWithCarry s.a r.1 s.flags.c s.flags.d) r.2

/-- `r <- op(A, M); A <- r` (rules R112, R162 to R164). -/
def logicA (op : Byte → Byte → Byte) (m : MemOperand) (s : State) : Executed :=
  let r := readOperand m s
  .withResult (r.2.setA (op s.a r.1)) (op s.a r.1)

/-- `AND` (rule R162). -/
def andA (m : MemOperand) (s : State) : Executed := logicA (fun a b => a &&& b) m s

/-- `ORA` (rule R163). -/
def orA (m : MemOperand) (s : State) : Executed := logicA (fun a b => a ||| b) m s

/-- `EOR` (rule R164). -/
def eorA (m : MemOperand) (s : State) : Executed := logicA (fun a b => a ^^^ b) m s

/-- `(r, cout) <- Compare(reg, M); C <- cout`; the register is not changed (rules R105, R165 to R167). -/
def compareWith (reg : Byte) (m : MemOperand) (s : State) : Executed :=
  let r := readOperand m s
  .withResult (r.2.setFlags { r.2.flags with c := compareCarry reg r.1 }) (compareResult reg r.1)

/-- `CMP` (rule R165). -/
def compareA (m : MemOperand) (s : State) : Executed := compareWith s.a m s

/-- `CPX` (rule R166). -/
def compareX (m : MemOperand) (s : State) : Executed := compareWith s.x m s

/-- `CPY` (rule R167). -/
def compareY (m : MemOperand) (s : State) : Executed := compareWith s.y m s

/-- `BIT` in a memory mode: `Z` from `A & M`, `V` from bit 6 of `M`, and `r <- M`, whose bit 7 is `N` by the generic
rule with mask `N` (rule R168). -/
def bitMem (m : MemOperand) (s : State) : Executed :=
  let r := readOperand m s
  .withResult (r.2.setFlags { r.2.flags with z := testZero s.a r.1, v := r.1.getLsbD 6 }) r.1

/-- `BIT` immediate: `Z` only (rule R168, D16; log entry 8). -/
def bitOnlyZ (m : MemOperand) (s : State) : Executed :=
  let r := readOperand m s
  .plain (r.2.setFlags { r.2.flags with z := testZero s.a r.1 })

/-- `M <- MemRead(EA)`, `Z` from `A & M`, `MemWrite(EA, op(M, A))` (rules R169, R170). -/
def testAndWrite (op : Byte → Byte → Byte) (m : MemOperand) (s : State) : Executed :=
  let ea := effectiveAddress m s
  let r := memRead ea.1 ea.2
  let s1 := r.2.setFlags { r.2.flags with z := testZero s.a r.1 }
  .plain (memWrite ea.1 (op r.1 s.a) s1)

/-- `TSB` (rule R169). -/
def testAndSet (m : MemOperand) (s : State) : Executed := testAndWrite (fun v a => v ||| a) m s

/-- `TRB` (rule R170). -/
def testAndReset (m : MemOperand) (s : State) : Executed := testAndWrite (fun v a => v &&& ~~~a) m s

/-- `M <- MemRead(EA); r <- f(M); MemWrite(EA, r)` (rules R171, R172). -/
def stepMem (f : Byte → Byte) (m : MemOperand) (s : State) : Executed :=
  let ea := effectiveAddress m s
  let r := memRead ea.1 ea.2
  .withResult (memWrite ea.1 (f r.1) r.2) (f r.1)

/-- `INC` on memory (rule R171). -/
def incMem (m : MemOperand) (s : State) : Executed := stepMem incByte m s

/-- `INC A` (rule R171). -/
def incA (s : State) : Executed := .withResult (s.setA (incByte s.a)) (incByte s.a)

/-- `DEC` on memory (rule R172). -/
def decMem (m : MemOperand) (s : State) : Executed := stepMem decByte m s

/-- `DEC A` (rule R172). -/
def decA (s : State) : Executed := .withResult (s.setA (decByte s.a)) (decByte s.a)

/-- `INX` (rule R173). -/
def incX (s : State) : Executed := .withResult (s.setX (incByte s.x)) (incByte s.x)

/-- `INY` (rule R174). -/
def incY (s : State) : Executed := .withResult (s.setY (incByte s.y)) (incByte s.y)

/-- `DEX` (rule R175). -/
def decX (s : State) : Executed := .withResult (s.setX (decByte s.x)) (decByte s.x)

/-- `DEY` (rule R176). -/
def decY (s : State) : Executed := .withResult (s.setY (decByte s.y)) (decByte s.y)

/-! ### The meanings, one per row of the opcode table -/

/-- `0x01` `ORA ($zz,X)` (rules R163, R93). -/
def execOraZpindx (zz : Byte) (s : State) : Result := runOpcode 0x01#8 (orA (.zpindx zz)) s

/-- `0x04` `TSB $zz` (rules R169, R84). -/
def execTsbZp (zz : Byte) (s : State) : Result := runOpcode 0x04#8 (testAndSet (.zp zz)) s

/-- `0x05` `ORA $zz` (rules R163, R84). -/
def execOraZp (zz : Byte) (s : State) : Result := runOpcode 0x05#8 (orA (.zp zz)) s

/-- `0x09` `ORA #$nn` (rules R163, R83). -/
def execOraImm (nn : Byte) (s : State) : Result := runOpcode 0x09#8 (orA (.imm nn)) s

/-- `0x0C` `TSB $hhll` (rules R169, R87). -/
def execTsbAbs (addr : Address) (s : State) : Result := runOpcode 0x0C#8 (testAndSet (.abs addr)) s

/-- `0x0D` `ORA $hhll` (rules R163, R87). -/
def execOraAbs (addr : Address) (s : State) : Result := runOpcode 0x0D#8 (orA (.abs addr)) s

/-- `0x11` `ORA ($zz),Y` (rules R163, R94). -/
def execOraZpindy (zz : Byte) (s : State) : Result := runOpcode 0x11#8 (orA (.zpindy zz)) s

/-- `0x12` `ORA ($zz)` (rules R163, R92). -/
def execOraZpind (zz : Byte) (s : State) : Result := runOpcode 0x12#8 (orA (.zpind zz)) s

/-- `0x14` `TRB $zz` (rules R170, R84). -/
def execTrbZp (zz : Byte) (s : State) : Result := runOpcode 0x14#8 (testAndReset (.zp zz)) s

/-- `0x15` `ORA $zz,X` (rules R163, R85). -/
def execOraZpx (zz : Byte) (s : State) : Result := runOpcode 0x15#8 (orA (.zpx zz)) s

/-- `0x19` `ORA $hhll,Y` (rules R163, R89). -/
def execOraAbsy (addr : Address) (s : State) : Result := runOpcode 0x19#8 (orA (.absy addr)) s

/-- `0x1A` `INC A` (rules R171, R82). -/
def execIncAcc (s : State) : Result := runOpcode 0x1A#8 incA s

/-- `0x1C` `TRB $hhll` (rules R170, R87). -/
def execTrbAbs (addr : Address) (s : State) : Result := runOpcode 0x1C#8 (testAndReset (.abs addr)) s

/-- `0x1D` `ORA $hhll,X` (rules R163, R88). -/
def execOraAbsx (addr : Address) (s : State) : Result := runOpcode 0x1D#8 (orA (.absx addr)) s

/-- `0x21` `AND ($zz,X)` (rules R162, R93). -/
def execAndZpindx (zz : Byte) (s : State) : Result := runOpcode 0x21#8 (andA (.zpindx zz)) s

/-- `0x24` `BIT $zz` (rules R168, R84). -/
def execBitZp (zz : Byte) (s : State) : Result := runOpcode 0x24#8 (bitMem (.zp zz)) s

/-- `0x25` `AND $zz` (rules R162, R84). -/
def execAndZp (zz : Byte) (s : State) : Result := runOpcode 0x25#8 (andA (.zp zz)) s

/-- `0x29` `AND #$nn` (rules R162, R83). -/
def execAndImm (nn : Byte) (s : State) : Result := runOpcode 0x29#8 (andA (.imm nn)) s

/-- `0x2C` `BIT $hhll` (rules R168, R87). -/
def execBitAbs (addr : Address) (s : State) : Result := runOpcode 0x2C#8 (bitMem (.abs addr)) s

/-- `0x2D` `AND $hhll` (rules R162, R87). -/
def execAndAbs (addr : Address) (s : State) : Result := runOpcode 0x2D#8 (andA (.abs addr)) s

/-- `0x31` `AND ($zz),Y` (rules R162, R94). -/
def execAndZpindy (zz : Byte) (s : State) : Result := runOpcode 0x31#8 (andA (.zpindy zz)) s

/-- `0x32` `AND ($zz)` (rules R162, R92). -/
def execAndZpind (zz : Byte) (s : State) : Result := runOpcode 0x32#8 (andA (.zpind zz)) s

/-- `0x34` `BIT $zz,X` (rules R168, R85). -/
def execBitZpx (zz : Byte) (s : State) : Result := runOpcode 0x34#8 (bitMem (.zpx zz)) s

/-- `0x35` `AND $zz,X` (rules R162, R85). -/
def execAndZpx (zz : Byte) (s : State) : Result := runOpcode 0x35#8 (andA (.zpx zz)) s

/-- `0x39` `AND $hhll,Y` (rules R162, R89). -/
def execAndAbsy (addr : Address) (s : State) : Result := runOpcode 0x39#8 (andA (.absy addr)) s

/-- `0x3A` `DEC A` (rules R172, R82). -/
def execDecAcc (s : State) : Result := runOpcode 0x3A#8 decA s

/-- `0x3C` `BIT $hhll,X` (rules R168, R88). -/
def execBitAbsx (addr : Address) (s : State) : Result := runOpcode 0x3C#8 (bitMem (.absx addr)) s

/-- `0x3D` `AND $hhll,X` (rules R162, R88). -/
def execAndAbsx (addr : Address) (s : State) : Result := runOpcode 0x3D#8 (andA (.absx addr)) s

/-- `0x41` `EOR ($zz,X)` (rules R164, R93). -/
def execEorZpindx (zz : Byte) (s : State) : Result := runOpcode 0x41#8 (eorA (.zpindx zz)) s

/-- `0x45` `EOR $zz` (rules R164, R84). -/
def execEorZp (zz : Byte) (s : State) : Result := runOpcode 0x45#8 (eorA (.zp zz)) s

/-- `0x49` `EOR #$nn` (rules R164, R83). -/
def execEorImm (nn : Byte) (s : State) : Result := runOpcode 0x49#8 (eorA (.imm nn)) s

/-- `0x4D` `EOR $hhll` (rules R164, R87). -/
def execEorAbs (addr : Address) (s : State) : Result := runOpcode 0x4D#8 (eorA (.abs addr)) s

/-- `0x51` `EOR ($zz),Y` (rules R164, R94). -/
def execEorZpindy (zz : Byte) (s : State) : Result := runOpcode 0x51#8 (eorA (.zpindy zz)) s

/-- `0x52` `EOR ($zz)` (rules R164, R92). -/
def execEorZpind (zz : Byte) (s : State) : Result := runOpcode 0x52#8 (eorA (.zpind zz)) s

/-- `0x55` `EOR $zz,X` (rules R164, R85). -/
def execEorZpx (zz : Byte) (s : State) : Result := runOpcode 0x55#8 (eorA (.zpx zz)) s

/-- `0x59` `EOR $hhll,Y` (rules R164, R89). -/
def execEorAbsy (addr : Address) (s : State) : Result := runOpcode 0x59#8 (eorA (.absy addr)) s

/-- `0x5D` `EOR $hhll,X` (rules R164, R88). -/
def execEorAbsx (addr : Address) (s : State) : Result := runOpcode 0x5D#8 (eorA (.absx addr)) s

/-- `0x61` `ADC ($zz,X)` (rules R160, R93). -/
def execAdcZpindx (zz : Byte) (s : State) : Result := runOpcode 0x61#8 (addToA (.zpindx zz)) s

/-- `0x65` `ADC $zz` (rules R160, R84). -/
def execAdcZp (zz : Byte) (s : State) : Result := runOpcode 0x65#8 (addToA (.zp zz)) s

/-- `0x69` `ADC #$nn` (rules R160, R83). -/
def execAdcImm (nn : Byte) (s : State) : Result := runOpcode 0x69#8 (addToA (.imm nn)) s

/-- `0x6D` `ADC $hhll` (rules R160, R87). -/
def execAdcAbs (addr : Address) (s : State) : Result := runOpcode 0x6D#8 (addToA (.abs addr)) s

/-- `0x71` `ADC ($zz),Y` (rules R160, R94). -/
def execAdcZpindy (zz : Byte) (s : State) : Result := runOpcode 0x71#8 (addToA (.zpindy zz)) s

/-- `0x72` `ADC ($zz)` (rules R160, R92). -/
def execAdcZpind (zz : Byte) (s : State) : Result := runOpcode 0x72#8 (addToA (.zpind zz)) s

/-- `0x75` `ADC $zz,X` (rules R160, R85). -/
def execAdcZpx (zz : Byte) (s : State) : Result := runOpcode 0x75#8 (addToA (.zpx zz)) s

/-- `0x79` `ADC $hhll,Y` (rules R160, R89). -/
def execAdcAbsy (addr : Address) (s : State) : Result := runOpcode 0x79#8 (addToA (.absy addr)) s

/-- `0x7D` `ADC $hhll,X` (rules R160, R88). -/
def execAdcAbsx (addr : Address) (s : State) : Result := runOpcode 0x7D#8 (addToA (.absx addr)) s

/-- `0x88` `DEY` (rules R176, R81). -/
def execDey (s : State) : Result := runOpcode 0x88#8 decY s

/-- `0x89` `BIT #$nn` (rules R168, R83). -/
def execBitImm (nn : Byte) (s : State) : Result := runOpcode 0x89#8 (bitOnlyZ (.imm nn)) s

/-- `0xC0` `CPY #$nn` (rules R167, R83). -/
def execCpyImm (nn : Byte) (s : State) : Result := runOpcode 0xC0#8 (compareY (.imm nn)) s

/-- `0xC1` `CMP ($zz,X)` (rules R165, R93). -/
def execCmpZpindx (zz : Byte) (s : State) : Result := runOpcode 0xC1#8 (compareA (.zpindx zz)) s

/-- `0xC4` `CPY $zz` (rules R167, R84). -/
def execCpyZp (zz : Byte) (s : State) : Result := runOpcode 0xC4#8 (compareY (.zp zz)) s

/-- `0xC5` `CMP $zz` (rules R165, R84). -/
def execCmpZp (zz : Byte) (s : State) : Result := runOpcode 0xC5#8 (compareA (.zp zz)) s

/-- `0xC6` `DEC $zz` (rules R172, R84). -/
def execDecZp (zz : Byte) (s : State) : Result := runOpcode 0xC6#8 (decMem (.zp zz)) s

/-- `0xC8` `INY` (rules R174, R81). -/
def execIny (s : State) : Result := runOpcode 0xC8#8 incY s

/-- `0xC9` `CMP #$nn` (rules R165, R83). -/
def execCmpImm (nn : Byte) (s : State) : Result := runOpcode 0xC9#8 (compareA (.imm nn)) s

/-- `0xCA` `DEX` (rules R175, R81). -/
def execDex (s : State) : Result := runOpcode 0xCA#8 decX s

/-- `0xCC` `CPY $hhll` (rules R167, R87). -/
def execCpyAbs (addr : Address) (s : State) : Result := runOpcode 0xCC#8 (compareY (.abs addr)) s

/-- `0xCD` `CMP $hhll` (rules R165, R87). -/
def execCmpAbs (addr : Address) (s : State) : Result := runOpcode 0xCD#8 (compareA (.abs addr)) s

/-- `0xCE` `DEC $hhll` (rules R172, R87). -/
def execDecAbs (addr : Address) (s : State) : Result := runOpcode 0xCE#8 (decMem (.abs addr)) s

/-- `0xD1` `CMP ($zz),Y` (rules R165, R94). -/
def execCmpZpindy (zz : Byte) (s : State) : Result := runOpcode 0xD1#8 (compareA (.zpindy zz)) s

/-- `0xD2` `CMP ($zz)` (rules R165, R92). -/
def execCmpZpind (zz : Byte) (s : State) : Result := runOpcode 0xD2#8 (compareA (.zpind zz)) s

/-- `0xD5` `CMP $zz,X` (rules R165, R85). -/
def execCmpZpx (zz : Byte) (s : State) : Result := runOpcode 0xD5#8 (compareA (.zpx zz)) s

/-- `0xD6` `DEC $zz,X` (rules R172, R85). -/
def execDecZpx (zz : Byte) (s : State) : Result := runOpcode 0xD6#8 (decMem (.zpx zz)) s

/-- `0xD9` `CMP $hhll,Y` (rules R165, R89). -/
def execCmpAbsy (addr : Address) (s : State) : Result := runOpcode 0xD9#8 (compareA (.absy addr)) s

/-- `0xDD` `CMP $hhll,X` (rules R165, R88). -/
def execCmpAbsx (addr : Address) (s : State) : Result := runOpcode 0xDD#8 (compareA (.absx addr)) s

/-- `0xDE` `DEC $hhll,X` (rules R172, R88). -/
def execDecAbsx (addr : Address) (s : State) : Result := runOpcode 0xDE#8 (decMem (.absx addr)) s

/-- `0xE0` `CPX #$nn` (rules R166, R83). -/
def execCpxImm (nn : Byte) (s : State) : Result := runOpcode 0xE0#8 (compareX (.imm nn)) s

/-- `0xE1` `SBC ($zz,X)` (rules R161, R93). -/
def execSbcZpindx (zz : Byte) (s : State) : Result := runOpcode 0xE1#8 (subFromA (.zpindx zz)) s

/-- `0xE4` `CPX $zz` (rules R166, R84). -/
def execCpxZp (zz : Byte) (s : State) : Result := runOpcode 0xE4#8 (compareX (.zp zz)) s

/-- `0xE5` `SBC $zz` (rules R161, R84). -/
def execSbcZp (zz : Byte) (s : State) : Result := runOpcode 0xE5#8 (subFromA (.zp zz)) s

/-- `0xE6` `INC $zz` (rules R171, R84). -/
def execIncZp (zz : Byte) (s : State) : Result := runOpcode 0xE6#8 (incMem (.zp zz)) s

/-- `0xE8` `INX` (rules R173, R81). -/
def execInx (s : State) : Result := runOpcode 0xE8#8 incX s

/-- `0xE9` `SBC #$nn` (rules R161, R83). -/
def execSbcImm (nn : Byte) (s : State) : Result := runOpcode 0xE9#8 (subFromA (.imm nn)) s

/-- `0xEC` `CPX $hhll` (rules R166, R87). -/
def execCpxAbs (addr : Address) (s : State) : Result := runOpcode 0xEC#8 (compareX (.abs addr)) s

/-- `0xED` `SBC $hhll` (rules R161, R87). -/
def execSbcAbs (addr : Address) (s : State) : Result := runOpcode 0xED#8 (subFromA (.abs addr)) s

/-- `0xEE` `INC $hhll` (rules R171, R87). -/
def execIncAbs (addr : Address) (s : State) : Result := runOpcode 0xEE#8 (incMem (.abs addr)) s

/-- `0xF1` `SBC ($zz),Y` (rules R161, R94). -/
def execSbcZpindy (zz : Byte) (s : State) : Result := runOpcode 0xF1#8 (subFromA (.zpindy zz)) s

/-- `0xF2` `SBC ($zz)` (rules R161, R92). -/
def execSbcZpind (zz : Byte) (s : State) : Result := runOpcode 0xF2#8 (subFromA (.zpind zz)) s

/-- `0xF5` `SBC $zz,X` (rules R161, R85). -/
def execSbcZpx (zz : Byte) (s : State) : Result := runOpcode 0xF5#8 (subFromA (.zpx zz)) s

/-- `0xF6` `INC $zz,X` (rules R171, R85). -/
def execIncZpx (zz : Byte) (s : State) : Result := runOpcode 0xF6#8 (incMem (.zpx zz)) s

/-- `0xF9` `SBC $hhll,Y` (rules R161, R89). -/
def execSbcAbsy (addr : Address) (s : State) : Result := runOpcode 0xF9#8 (subFromA (.absy addr)) s

/-- `0xFD` `SBC $hhll,X` (rules R161, R88). -/
def execSbcAbsx (addr : Address) (s : State) : Result := runOpcode 0xFD#8 (subFromA (.absx addr)) s

/-- `0xFE` `INC $hhll,X` (rules R171, R88). -/
def execIncAbsx (addr : Address) (s : State) : Result := runOpcode 0xFE#8 (incMem (.absx addr)) s

end Sys2Proof.Machine
end

