-- ==== Sys2Proof/Machine/Control.lean ====
section
/-! DEFINITION. Jumps, subroutine call and return, and branches (46_control_transfer.md rules R200 to R214). -/

namespace Sys2Proof.Machine

/-- `JMP`: `next <- EA`; the byte at `EA` is not read (rule R200). -/
def jumpTo (m : MemOperand) (s : State) : Executed :=
  let ea := effectiveAddress m s
  .jump ea.2 ea.1

/-- `JSR`: pushes the address of its own last byte, `PC0 + 2`, and goes to `EA` (rule R201, D7; log entry 9). -/
def callSubroutine (m : MemOperand) (s : State) : Executed :=
  let ea := effectiveAddress m s
  let s1 := push16 (s.pc + 2#16) ea.2
  .jump (s1.setDepth (s1.depth + 1)) ea.1

/-- `RTS`: goes to the pulled word plus 1 (rule R202, D7; log entry 9). -/
def returnFromSubroutine (s : State) : Executed :=
  let w := pull16 s
  .jump (w.2.setDepth (w.2.depth - 1)) (w.1 + 1#16)

/-- The common rule of the branches on a flag: to `target` if `cond`, else on to the next instruction (rule R203). -/
def branchIf (cond : Bool) (off : Byte) (s : State) : Executed :=
  if cond then .jump s (branchTarget 2 off s) else .plain s

/-- `BPL` (rule R204). -/
def branchPlus (off : Byte) (s : State) : Executed := branchIf (!s.flags.n) off s

/-- `BMI` (rule R205). -/
def branchMinus (off : Byte) (s : State) : Executed := branchIf s.flags.n off s

/-- `BVC` (rule R206). -/
def branchOverflowClear (off : Byte) (s : State) : Executed := branchIf (!s.flags.v) off s

/-- `BVS` (rule R207). -/
def branchOverflowSet (off : Byte) (s : State) : Executed := branchIf s.flags.v off s

/-- `BCC` (rule R208). -/
def branchCarryClear (off : Byte) (s : State) : Executed := branchIf (!s.flags.c) off s

/-- `BCS` (rule R209). -/
def branchCarrySet (off : Byte) (s : State) : Executed := branchIf s.flags.c off s

/-- `BNE` (rule R210). -/
def branchNotEqual (off : Byte) (s : State) : Executed := branchIf (!s.flags.z) off s

/-- `BEQ` (rule R211). -/
def branchEqual (off : Byte) (s : State) : Executed := branchIf s.flags.z off s

/-- `BRA` (rule R212). -/
def branchAlways (off : Byte) (s : State) : Executed := branchIf true off s

/-- Reads the zero-page byte and branches if its bit `n` is `b` (rules R96, R213, R214). -/
def branchOnBit (n : Fin 8) (b : Bool) (zz off : Byte) (s : State) : Executed :=
  let r := readOperand (.zp zz) s
  if r.1.getLsbD n.val = b then .jump r.2 (branchTarget 3 off s) else .plain r.2

/-- `BBRn` (rule R213). -/
def branchBitReset (n : Fin 8) (zz off : Byte) (s : State) : Executed := branchOnBit n false zz off s

/-- `BBSn` (rule R214). -/
def branchBitSet (n : Fin 8) (zz off : Byte) (s : State) : Executed := branchOnBit n true zz off s

/-! ### The meanings, one per row of the opcode table -/

/-- `0x0F` `BBR0 $zz,label` (rules R213, R96). -/
def execBbr0 (zz : Byte) (off : Byte) (s : State) : Result := runOpcode 0x0F#8 (branchBitReset 0 zz off) s

/-- `0x10` `BPL label` (rules R204, R95). -/
def execBpl (off : Byte) (s : State) : Result := runOpcode 0x10#8 (branchPlus off) s

/-- `0x1F` `BBR1 $zz,label` (rules R213, R96). -/
def execBbr1 (zz : Byte) (off : Byte) (s : State) : Result := runOpcode 0x1F#8 (branchBitReset 1 zz off) s

/-- `0x20` `JSR $hhll` (rules R201, R87). -/
def execJsrAbs (addr : Address) (s : State) : Result := runOpcode 0x20#8 (callSubroutine (.abs addr)) s

/-- `0x2F` `BBR2 $zz,label` (rules R213, R96). -/
def execBbr2 (zz : Byte) (off : Byte) (s : State) : Result := runOpcode 0x2F#8 (branchBitReset 2 zz off) s

/-- `0x30` `BMI label` (rules R205, R95). -/
def execBmi (off : Byte) (s : State) : Result := runOpcode 0x30#8 (branchMinus off) s

/-- `0x3F` `BBR3 $zz,label` (rules R213, R96). -/
def execBbr3 (zz : Byte) (off : Byte) (s : State) : Result := runOpcode 0x3F#8 (branchBitReset 3 zz off) s

/-- `0x4C` `JMP $hhll` (rules R200, R87). -/
def execJmpAbs (addr : Address) (s : State) : Result := runOpcode 0x4C#8 (jumpTo (.abs addr)) s

/-- `0x4F` `BBR4 $zz,label` (rules R213, R96). -/
def execBbr4 (zz : Byte) (off : Byte) (s : State) : Result := runOpcode 0x4F#8 (branchBitReset 4 zz off) s

/-- `0x50` `BVC label` (rules R206, R95). -/
def execBvc (off : Byte) (s : State) : Result := runOpcode 0x50#8 (branchOverflowClear off) s

/-- `0x5F` `BBR5 $zz,label` (rules R213, R96). -/
def execBbr5 (zz : Byte) (off : Byte) (s : State) : Result := runOpcode 0x5F#8 (branchBitReset 5 zz off) s

/-- `0x60` `RTS` (rules R202, R81). -/
def execRts (s : State) : Result := runOpcode 0x60#8 returnFromSubroutine s

/-- `0x6C` `JMP ($hhll)` (rules R200, R90). -/
def execJmpInd (addr : Address) (s : State) : Result := runOpcode 0x6C#8 (jumpTo (.ind addr)) s

/-- `0x6F` `BBR6 $zz,label` (rules R213, R96). -/
def execBbr6 (zz : Byte) (off : Byte) (s : State) : Result := runOpcode 0x6F#8 (branchBitReset 6 zz off) s

/-- `0x70` `BVS label` (rules R207, R95). -/
def execBvs (off : Byte) (s : State) : Result := runOpcode 0x70#8 (branchOverflowSet off) s

/-- `0x7C` `JMP ($hhll,X)` (rules R200, R91). -/
def execJmpAbsindx (addr : Address) (s : State) : Result := runOpcode 0x7C#8 (jumpTo (.absindx addr)) s

/-- `0x7F` `BBR7 $zz,label` (rules R213, R96). -/
def execBbr7 (zz : Byte) (off : Byte) (s : State) : Result := runOpcode 0x7F#8 (branchBitReset 7 zz off) s

/-- `0x80` `BRA label` (rules R212, R95). -/
def execBra (off : Byte) (s : State) : Result := runOpcode 0x80#8 (branchAlways off) s

/-- `0x8F` `BBS0 $zz,label` (rules R214, R96). -/
def execBbs0 (zz : Byte) (off : Byte) (s : State) : Result := runOpcode 0x8F#8 (branchBitSet 0 zz off) s

/-- `0x90` `BCC label` (rules R208, R95). -/
def execBcc (off : Byte) (s : State) : Result := runOpcode 0x90#8 (branchCarryClear off) s

/-- `0x9F` `BBS1 $zz,label` (rules R214, R96). -/
def execBbs1 (zz : Byte) (off : Byte) (s : State) : Result := runOpcode 0x9F#8 (branchBitSet 1 zz off) s

/-- `0xAF` `BBS2 $zz,label` (rules R214, R96). -/
def execBbs2 (zz : Byte) (off : Byte) (s : State) : Result := runOpcode 0xAF#8 (branchBitSet 2 zz off) s

/-- `0xB0` `BCS label` (rules R209, R95). -/
def execBcs (off : Byte) (s : State) : Result := runOpcode 0xB0#8 (branchCarrySet off) s

/-- `0xBF` `BBS3 $zz,label` (rules R214, R96). -/
def execBbs3 (zz : Byte) (off : Byte) (s : State) : Result := runOpcode 0xBF#8 (branchBitSet 3 zz off) s

/-- `0xCF` `BBS4 $zz,label` (rules R214, R96). -/
def execBbs4 (zz : Byte) (off : Byte) (s : State) : Result := runOpcode 0xCF#8 (branchBitSet 4 zz off) s

/-- `0xD0` `BNE label` (rules R210, R95). -/
def execBne (off : Byte) (s : State) : Result := runOpcode 0xD0#8 (branchNotEqual off) s

/-- `0xDF` `BBS5 $zz,label` (rules R214, R96). -/
def execBbs5 (zz : Byte) (off : Byte) (s : State) : Result := runOpcode 0xDF#8 (branchBitSet 5 zz off) s

/-- `0xEF` `BBS6 $zz,label` (rules R214, R96). -/
def execBbs6 (zz : Byte) (off : Byte) (s : State) : Result := runOpcode 0xEF#8 (branchBitSet 6 zz off) s

/-- `0xF0` `BEQ label` (rules R211, R95). -/
def execBeq (off : Byte) (s : State) : Result := runOpcode 0xF0#8 (branchEqual off) s

/-- `0xFF` `BBS7 $zz,label` (rules R214, R96). -/
def execBbs7 (zz : Byte) (off : Byte) (s : State) : Result := runOpcode 0xFF#8 (branchBitSet 7 zz off) s

end Sys2Proof.Machine
end

