-- ==== Sys2Proof/Machine/LoadStore.lean ====
section
/-! DEFINITION. Load, store and register-transfer instructions (43_load_store_transfer.md rules R140 to R152). -/

namespace Sys2Proof.Machine

/-- `LDA`: `M <- MemRead(EA); A <- M; r <- M` (rule R140). -/
def loadA (m : MemOperand) (s : State) : Executed :=
  let r := readOperand m s
  .withResult (r.2.setA r.1) r.1

/-- `LDX`: `M <- MemRead(EA); X <- M; r <- M` (rule R141). -/
def loadX (m : MemOperand) (s : State) : Executed :=
  let r := readOperand m s
  .withResult (r.2.setX r.1) r.1

/-- `LDY`: `M <- MemRead(EA); Y <- M; r <- M` (rule R142). -/
def loadY (m : MemOperand) (s : State) : Executed :=
  let r := readOperand m s
  .withResult (r.2.setY r.1) r.1

/-- `MemWrite(EA, v)`: the one access of a store to its operand; `EA` is not read (rules R99, R143 to R146). -/
def storeByte (v : Byte) (m : MemOperand) (s : State) : Executed :=
  let ea := effectiveAddress m s
  .plain (memWrite ea.1 v ea.2)

/-- `STA` (rule R143). -/
def storeA (m : MemOperand) (s : State) : Executed := storeByte s.a m s

/-- `STX` (rule R144). -/
def storeX (m : MemOperand) (s : State) : Executed := storeByte s.x m s

/-- `STY` (rule R145). -/
def storeY (m : MemOperand) (s : State) : Executed := storeByte s.y m s

/-- `STZ` (rule R146). -/
def storeZero (m : MemOperand) (s : State) : Executed := storeByte 0x00#8 m s

/-- `TAX`: `X <- A; r <- A` (rule R147). -/
def copyAToX (s : State) : Executed := .withResult (s.setX s.a) s.a

/-- `TAY`: `Y <- A; r <- A` (rule R148). -/
def copyAToY (s : State) : Executed := .withResult (s.setY s.a) s.a

/-- `TXA`: `A <- X; r <- X` (rule R149). -/
def copyXToA (s : State) : Executed := .withResult (s.setA s.x) s.x

/-- `TYA`: `A <- Y; r <- Y` (rule R150). -/
def copyYToA (s : State) : Executed := .withResult (s.setA s.y) s.y

/-- `TSX`: `X <- SP; r <- SP` (rule R151). -/
def copySpToX (s : State) : Executed := .withResult (s.setX s.sp) s.sp

/-- `TXS`: `SP <- X`, the one transfer that writes no flag (rule R152). -/
def copyXToSp (s : State) : Executed := .plain (s.setSp s.x)

/-! ### The meanings, one per row of the opcode table -/

/-- `0x64` `STZ $zz` (rules R146, R84). -/
def execStzZp (zz : Byte) (s : State) : Result := runOpcode 0x64#8 (storeZero (.zp zz)) s

/-- `0x74` `STZ $zz,X` (rules R146, R85). -/
def execStzZpx (zz : Byte) (s : State) : Result := runOpcode 0x74#8 (storeZero (.zpx zz)) s

/-- `0x81` `STA ($zz,X)` (rules R143, R93). -/
def execStaZpindx (zz : Byte) (s : State) : Result := runOpcode 0x81#8 (storeA (.zpindx zz)) s

/-- `0x84` `STY $zz` (rules R145, R84). -/
def execStyZp (zz : Byte) (s : State) : Result := runOpcode 0x84#8 (storeY (.zp zz)) s

/-- `0x85` `STA $zz` (rules R143, R84). -/
def execStaZp (zz : Byte) (s : State) : Result := runOpcode 0x85#8 (storeA (.zp zz)) s

/-- `0x86` `STX $zz` (rules R144, R84). -/
def execStxZp (zz : Byte) (s : State) : Result := runOpcode 0x86#8 (storeX (.zp zz)) s

/-- `0x8A` `TXA` (rules R149, R81). -/
def execTxa (s : State) : Result := runOpcode 0x8A#8 copyXToA s

/-- `0x8C` `STY $hhll` (rules R145, R87). -/
def execStyAbs (addr : Address) (s : State) : Result := runOpcode 0x8C#8 (storeY (.abs addr)) s

/-- `0x8D` `STA $hhll` (rules R143, R87). -/
def execStaAbs (addr : Address) (s : State) : Result := runOpcode 0x8D#8 (storeA (.abs addr)) s

/-- `0x8E` `STX $hhll` (rules R144, R87). -/
def execStxAbs (addr : Address) (s : State) : Result := runOpcode 0x8E#8 (storeX (.abs addr)) s

/-- `0x91` `STA ($zz),Y` (rules R143, R94). -/
def execStaZpindy (zz : Byte) (s : State) : Result := runOpcode 0x91#8 (storeA (.zpindy zz)) s

/-- `0x92` `STA ($zz)` (rules R143, R92). -/
def execStaZpind (zz : Byte) (s : State) : Result := runOpcode 0x92#8 (storeA (.zpind zz)) s

/-- `0x94` `STY $zz,X` (rules R145, R85). -/
def execStyZpx (zz : Byte) (s : State) : Result := runOpcode 0x94#8 (storeY (.zpx zz)) s

/-- `0x95` `STA $zz,X` (rules R143, R85). -/
def execStaZpx (zz : Byte) (s : State) : Result := runOpcode 0x95#8 (storeA (.zpx zz)) s

/-- `0x96` `STX $zz,Y` (rules R144, R86). -/
def execStxZpy (zz : Byte) (s : State) : Result := runOpcode 0x96#8 (storeX (.zpy zz)) s

/-- `0x98` `TYA` (rules R150, R81). -/
def execTya (s : State) : Result := runOpcode 0x98#8 copyYToA s

/-- `0x99` `STA $hhll,Y` (rules R143, R89). -/
def execStaAbsy (addr : Address) (s : State) : Result := runOpcode 0x99#8 (storeA (.absy addr)) s

/-- `0x9A` `TXS` (rules R152, R81). -/
def execTxs (s : State) : Result := runOpcode 0x9A#8 copyXToSp s

/-- `0x9C` `STZ $hhll` (rules R146, R87). -/
def execStzAbs (addr : Address) (s : State) : Result := runOpcode 0x9C#8 (storeZero (.abs addr)) s

/-- `0x9D` `STA $hhll,X` (rules R143, R88). -/
def execStaAbsx (addr : Address) (s : State) : Result := runOpcode 0x9D#8 (storeA (.absx addr)) s

/-- `0x9E` `STZ $hhll,X` (rules R146, R88). -/
def execStzAbsx (addr : Address) (s : State) : Result := runOpcode 0x9E#8 (storeZero (.absx addr)) s

/-- `0xA0` `LDY #$nn` (rules R142, R83). -/
def execLdyImm (nn : Byte) (s : State) : Result := runOpcode 0xA0#8 (loadY (.imm nn)) s

/-- `0xA1` `LDA ($zz,X)` (rules R140, R93). -/
def execLdaZpindx (zz : Byte) (s : State) : Result := runOpcode 0xA1#8 (loadA (.zpindx zz)) s

/-- `0xA2` `LDX #$nn` (rules R141, R83). -/
def execLdxImm (nn : Byte) (s : State) : Result := runOpcode 0xA2#8 (loadX (.imm nn)) s

/-- `0xA4` `LDY $zz` (rules R142, R84). -/
def execLdyZp (zz : Byte) (s : State) : Result := runOpcode 0xA4#8 (loadY (.zp zz)) s

/-- `0xA5` `LDA $zz` (rules R140, R84). -/
def execLdaZp (zz : Byte) (s : State) : Result := runOpcode 0xA5#8 (loadA (.zp zz)) s

/-- `0xA6` `LDX $zz` (rules R141, R84). -/
def execLdxZp (zz : Byte) (s : State) : Result := runOpcode 0xA6#8 (loadX (.zp zz)) s

/-- `0xA8` `TAY` (rules R148, R81). -/
def execTay (s : State) : Result := runOpcode 0xA8#8 copyAToY s

/-- `0xA9` `LDA #$nn` (rules R140, R83). -/
def execLdaImm (nn : Byte) (s : State) : Result := runOpcode 0xA9#8 (loadA (.imm nn)) s

/-- `0xAA` `TAX` (rules R147, R81). -/
def execTax (s : State) : Result := runOpcode 0xAA#8 copyAToX s

/-- `0xAC` `LDY $hhll` (rules R142, R87). -/
def execLdyAbs (addr : Address) (s : State) : Result := runOpcode 0xAC#8 (loadY (.abs addr)) s

/-- `0xAD` `LDA $hhll` (rules R140, R87). -/
def execLdaAbs (addr : Address) (s : State) : Result := runOpcode 0xAD#8 (loadA (.abs addr)) s

/-- `0xAE` `LDX $hhll` (rules R141, R87). -/
def execLdxAbs (addr : Address) (s : State) : Result := runOpcode 0xAE#8 (loadX (.abs addr)) s

/-- `0xB1` `LDA ($zz),Y` (rules R140, R94). -/
def execLdaZpindy (zz : Byte) (s : State) : Result := runOpcode 0xB1#8 (loadA (.zpindy zz)) s

/-- `0xB2` `LDA ($zz)` (rules R140, R92). -/
def execLdaZpind (zz : Byte) (s : State) : Result := runOpcode 0xB2#8 (loadA (.zpind zz)) s

/-- `0xB4` `LDY $zz,X` (rules R142, R85). -/
def execLdyZpx (zz : Byte) (s : State) : Result := runOpcode 0xB4#8 (loadY (.zpx zz)) s

/-- `0xB5` `LDA $zz,X` (rules R140, R85). -/
def execLdaZpx (zz : Byte) (s : State) : Result := runOpcode 0xB5#8 (loadA (.zpx zz)) s

/-- `0xB6` `LDX $zz,Y` (rules R141, R86). -/
def execLdxZpy (zz : Byte) (s : State) : Result := runOpcode 0xB6#8 (loadX (.zpy zz)) s

/-- `0xB9` `LDA $hhll,Y` (rules R140, R89). -/
def execLdaAbsy (addr : Address) (s : State) : Result := runOpcode 0xB9#8 (loadA (.absy addr)) s

/-- `0xBA` `TSX` (rules R151, R81). -/
def execTsx (s : State) : Result := runOpcode 0xBA#8 copySpToX s

/-- `0xBC` `LDY $hhll,X` (rules R142, R88). -/
def execLdyAbsx (addr : Address) (s : State) : Result := runOpcode 0xBC#8 (loadY (.absx addr)) s

/-- `0xBD` `LDA $hhll,X` (rules R140, R88). -/
def execLdaAbsx (addr : Address) (s : State) : Result := runOpcode 0xBD#8 (loadA (.absx addr)) s

/-- `0xBE` `LDX $hhll,Y` (rules R141, R89). -/
def execLdxAbsy (addr : Address) (s : State) : Result := runOpcode 0xBE#8 (loadX (.absy addr)) s

end Sys2Proof.Machine
end

