-- ==== Sys2Proof/Machine/Shift.lean ====
section
/-! DEFINITION. Shift, rotate and single-bit memory instructions (45_shift_bit.md rules R190 to R195). -/

namespace Sys2Proof.Machine

/-- The accumulator form: `v <- A; (r, cout) <- f(v, C); C <- cout; A <- r` (rules R190 to R193). -/
def shiftA (f : Byte → Bool → ShiftResult) (s : State) : Executed :=
  let sh := f s.a s.flags.c
  .withResult ((s.setFlags { s.flags with c := sh.carry }).setA sh.result) sh.result

/-- A memory form: `v <- MemRead(EA); (r, cout) <- f(v, C); C <- cout; MemWrite(EA, r)` (rules R190 to R193). -/
def shiftMem (f : Byte → Bool → ShiftResult) (m : MemOperand) (s : State) : Executed :=
  let ea := effectiveAddress m s
  let v := memRead ea.1 ea.2
  let sh := f v.1 s.flags.c
  .withResult (memWrite ea.1 sh.result (v.2.setFlags { v.2.flags with c := sh.carry })) sh.result

/-- `ASL A`: the old `C` is not read (rule R190). -/
def aslA (s : State) : Executed := shiftA (fun v _ => asl v) s

/-- `ASL` on memory (rule R190). -/
def aslMem (m : MemOperand) (s : State) : Executed := shiftMem (fun v _ => asl v) m s

/-- `LSR A`: the old `C` is not read (rule R191). -/
def lsrA (s : State) : Executed := shiftA (fun v _ => lsr v) s

/-- `LSR` on memory (rule R191). -/
def lsrMem (m : MemOperand) (s : State) : Executed := shiftMem (fun v _ => lsr v) m s

/-- `ROL A` (rule R192). -/
def rolA (s : State) : Executed := shiftA rol s

/-- `ROL` on memory (rule R192). -/
def rolMem (m : MemOperand) (s : State) : Executed := shiftMem rol m s

/-- `ROR A` (rule R193). -/
def rorA (s : State) : Executed := shiftA ror s

/-- `ROR` on memory (rule R193). -/
def rorMem (m : MemOperand) (s : State) : Executed := shiftMem ror m s

/-- `M <- MemRead(EA); MemWrite(EA, f(M))`, no flag written; the write happens whatever `M` is (rules R194, R195). -/
def modifyByte (f : Byte → Byte) (m : MemOperand) (s : State) : Executed :=
  let ea := effectiveAddress m s
  let r := memRead ea.1 ea.2
  .plain (memWrite ea.1 (f r.1) r.2)

/-- `RMBn` (rule R194). -/
def resetMemBit (n : Fin 8) (m : MemOperand) (s : State) : Executed := modifyByte (withoutBit n) m s

/-- `SMBn` (rule R195). -/
def setMemBit (n : Fin 8) (m : MemOperand) (s : State) : Executed := modifyByte (withBit n) m s

/-! ### The meanings, one per row of the opcode table -/

/-- `0x06` `ASL $zz` (rules R190, R84). -/
def execAslZp (zz : Byte) (s : State) : Result := runOpcode 0x06#8 (aslMem (.zp zz)) s

/-- `0x07` `RMB0 $zz` (rules R194, R84). -/
def execRmb0 (zz : Byte) (s : State) : Result := runOpcode 0x07#8 (resetMemBit 0 (.zp zz)) s

/-- `0x0A` `ASL A` (rules R190, R82). -/
def execAslAcc (s : State) : Result := runOpcode 0x0A#8 aslA s

/-- `0x0E` `ASL $hhll` (rules R190, R87). -/
def execAslAbs (addr : Address) (s : State) : Result := runOpcode 0x0E#8 (aslMem (.abs addr)) s

/-- `0x16` `ASL $zz,X` (rules R190, R85). -/
def execAslZpx (zz : Byte) (s : State) : Result := runOpcode 0x16#8 (aslMem (.zpx zz)) s

/-- `0x17` `RMB1 $zz` (rules R194, R84). -/
def execRmb1 (zz : Byte) (s : State) : Result := runOpcode 0x17#8 (resetMemBit 1 (.zp zz)) s

/-- `0x1E` `ASL $hhll,X` (rules R190, R88). -/
def execAslAbsx (addr : Address) (s : State) : Result := runOpcode 0x1E#8 (aslMem (.absx addr)) s

/-- `0x26` `ROL $zz` (rules R192, R84). -/
def execRolZp (zz : Byte) (s : State) : Result := runOpcode 0x26#8 (rolMem (.zp zz)) s

/-- `0x27` `RMB2 $zz` (rules R194, R84). -/
def execRmb2 (zz : Byte) (s : State) : Result := runOpcode 0x27#8 (resetMemBit 2 (.zp zz)) s

/-- `0x2A` `ROL A` (rules R192, R82). -/
def execRolAcc (s : State) : Result := runOpcode 0x2A#8 rolA s

/-- `0x2E` `ROL $hhll` (rules R192, R87). -/
def execRolAbs (addr : Address) (s : State) : Result := runOpcode 0x2E#8 (rolMem (.abs addr)) s

/-- `0x36` `ROL $zz,X` (rules R192, R85). -/
def execRolZpx (zz : Byte) (s : State) : Result := runOpcode 0x36#8 (rolMem (.zpx zz)) s

/-- `0x37` `RMB3 $zz` (rules R194, R84). -/
def execRmb3 (zz : Byte) (s : State) : Result := runOpcode 0x37#8 (resetMemBit 3 (.zp zz)) s

/-- `0x3E` `ROL $hhll,X` (rules R192, R88). -/
def execRolAbsx (addr : Address) (s : State) : Result := runOpcode 0x3E#8 (rolMem (.absx addr)) s

/-- `0x46` `LSR $zz` (rules R191, R84). -/
def execLsrZp (zz : Byte) (s : State) : Result := runOpcode 0x46#8 (lsrMem (.zp zz)) s

/-- `0x47` `RMB4 $zz` (rules R194, R84). -/
def execRmb4 (zz : Byte) (s : State) : Result := runOpcode 0x47#8 (resetMemBit 4 (.zp zz)) s

/-- `0x4A` `LSR A` (rules R191, R82). -/
def execLsrAcc (s : State) : Result := runOpcode 0x4A#8 lsrA s

/-- `0x4E` `LSR $hhll` (rules R191, R87). -/
def execLsrAbs (addr : Address) (s : State) : Result := runOpcode 0x4E#8 (lsrMem (.abs addr)) s

/-- `0x56` `LSR $zz,X` (rules R191, R85). -/
def execLsrZpx (zz : Byte) (s : State) : Result := runOpcode 0x56#8 (lsrMem (.zpx zz)) s

/-- `0x57` `RMB5 $zz` (rules R194, R84). -/
def execRmb5 (zz : Byte) (s : State) : Result := runOpcode 0x57#8 (resetMemBit 5 (.zp zz)) s

/-- `0x5E` `LSR $hhll,X` (rules R191, R88). -/
def execLsrAbsx (addr : Address) (s : State) : Result := runOpcode 0x5E#8 (lsrMem (.absx addr)) s

/-- `0x66` `ROR $zz` (rules R193, R84). -/
def execRorZp (zz : Byte) (s : State) : Result := runOpcode 0x66#8 (rorMem (.zp zz)) s

/-- `0x67` `RMB6 $zz` (rules R194, R84). -/
def execRmb6 (zz : Byte) (s : State) : Result := runOpcode 0x67#8 (resetMemBit 6 (.zp zz)) s

/-- `0x6A` `ROR A` (rules R193, R82). -/
def execRorAcc (s : State) : Result := runOpcode 0x6A#8 rorA s

/-- `0x6E` `ROR $hhll` (rules R193, R87). -/
def execRorAbs (addr : Address) (s : State) : Result := runOpcode 0x6E#8 (rorMem (.abs addr)) s

/-- `0x76` `ROR $zz,X` (rules R193, R85). -/
def execRorZpx (zz : Byte) (s : State) : Result := runOpcode 0x76#8 (rorMem (.zpx zz)) s

/-- `0x77` `RMB7 $zz` (rules R194, R84). -/
def execRmb7 (zz : Byte) (s : State) : Result := runOpcode 0x77#8 (resetMemBit 7 (.zp zz)) s

/-- `0x7E` `ROR $hhll,X` (rules R193, R88). -/
def execRorAbsx (addr : Address) (s : State) : Result := runOpcode 0x7E#8 (rorMem (.absx addr)) s

/-- `0x87` `SMB0 $zz` (rules R195, R84). -/
def execSmb0 (zz : Byte) (s : State) : Result := runOpcode 0x87#8 (setMemBit 0 (.zp zz)) s

/-- `0x97` `SMB1 $zz` (rules R195, R84). -/
def execSmb1 (zz : Byte) (s : State) : Result := runOpcode 0x97#8 (setMemBit 1 (.zp zz)) s

/-- `0xA7` `SMB2 $zz` (rules R195, R84). -/
def execSmb2 (zz : Byte) (s : State) : Result := runOpcode 0xA7#8 (setMemBit 2 (.zp zz)) s

/-- `0xB7` `SMB3 $zz` (rules R195, R84). -/
def execSmb3 (zz : Byte) (s : State) : Result := runOpcode 0xB7#8 (setMemBit 3 (.zp zz)) s

/-- `0xC7` `SMB4 $zz` (rules R195, R84). -/
def execSmb4 (zz : Byte) (s : State) : Result := runOpcode 0xC7#8 (setMemBit 4 (.zp zz)) s

/-- `0xD7` `SMB5 $zz` (rules R195, R84). -/
def execSmb5 (zz : Byte) (s : State) : Result := runOpcode 0xD7#8 (setMemBit 5 (.zp zz)) s

/-- `0xE7` `SMB6 $zz` (rules R195, R84). -/
def execSmb6 (zz : Byte) (s : State) : Result := runOpcode 0xE7#8 (setMemBit 6 (.zp zz)) s

/-- `0xF7` `SMB7 $zz` (rules R195, R84). -/
def execSmb7 (zz : Byte) (s : State) : Result := runOpcode 0xF7#8 (setMemBit 7 (.zp zz)) s

end Sys2Proof.Machine
end

