-- ==== Sys2Proof/Machine/StackFlag.lean ====
section
/-! DEFINITION. Stack, flag and system instructions (47_stack_flag_system.md rules R220 to R237). -/

namespace Sys2Proof.Machine

/-- `PHA` (rule R220). -/
def pushA (s : State) : Executed := .plain (push s.a s)

/-- `PHX` (rule R221). -/
def pushX (s : State) : Executed := .plain (push s.x s)

/-- `PHY` (rule R222). -/
def pushY (s : State) : Executed := .plain (push s.y s)

/-- `PHP`: `Push(Pack(0))` (rule R223, D8; log entry 10). -/
def pushStatus (s : State) : Executed := .plain (push (pack false s.flags) s)

/-- `PLA`: `r <- Pull(); A <- r` (rule R224). -/
def pullA (s : State) : Executed :=
  let r := pull s
  .withResult (r.2.setA r.1) r.1

/-- `PLX`: `r <- Pull(); X <- r` (rule R225). -/
def pullX (s : State) : Executed :=
  let r := pull s
  .withResult (r.2.setX r.1) r.1

/-- `PLY`: `r <- Pull(); Y <- r` (rule R226). -/
def pullY (s : State) : Executed :=
  let r := pull s
  .withResult (r.2.setY r.1) r.1

/-- `PLP`: `Unpack(Pull())`; the generic rule does not run (rule R227). -/
def pullStatus (s : State) : Executed :=
  let b := pull s
  .plain (b.2.setFlags (unpack b.1))

/-- `CLC` (rule R228). -/
def clearCarry (s : State) : Executed := .plain (s.setFlags { s.flags with c := false })

/-- `SEC` (rule R229). -/
def setCarry (s : State) : Executed := .plain (s.setFlags { s.flags with c := true })

/-- `CLI` (rule R230). -/
def clearInterruptDisable (s : State) : Executed := .plain (s.setFlags { s.flags with i := false })

/-- `SEI` (rule R231). -/
def setInterruptDisable (s : State) : Executed := .plain (s.setFlags { s.flags with i := true })

/-- `CLD` (rule R232). -/
def clearDecimal (s : State) : Executed := .plain (s.setFlags { s.flags with d := false })

/-- `SED` (rule R233). -/
def setDecimal (s : State) : Executed := .plain (s.setFlags { s.flags with d := true })

/-- `CLV` (rule R234). -/
def clearOverflow (s : State) : Executed := .plain (s.setFlags { s.flags with v := false })

/-- `NOP` (rule R235). -/
def noOperation (s : State) : Executed := .plain s

/-- `BRK`, the software interrupt (rules R236, R264): reads the IRQ vector, sets `PC` past its padding byte and runs the
entry sequence with the Break bit. -/
def softwareInterrupt (s : State) : Executed :=
  let t := read16 config.vecIrq s
  let s1 := t.2.setPc (s.pc + BitVec.ofNat 16 config.brkLength)
  .jump (interruptEntry t.1 true s1) t.1

/-- `RTI` (rules R237, R265): the pulled word is used as it is. -/
def interruptReturn (s : State) : Executed :=
  let w := returnFromInterrupt s
  .jump w.2 w.1

/-! ### The meanings, one per row of the opcode table -/

/-- `0x00` `BRK` (rules R236, R81). -/
def execBrk (s : State) : Result := runOpcode 0x00#8 softwareInterrupt s

/-- `0x08` `PHP` (rules R223, R81). -/
def execPhp (s : State) : Result := runOpcode 0x08#8 pushStatus s

/-- `0x18` `CLC` (rules R228, R81). -/
def execClc (s : State) : Result := runOpcode 0x18#8 clearCarry s

/-- `0x28` `PLP` (rules R227, R81). -/
def execPlp (s : State) : Result := runOpcode 0x28#8 pullStatus s

/-- `0x38` `SEC` (rules R229, R81). -/
def execSec (s : State) : Result := runOpcode 0x38#8 setCarry s

/-- `0x40` `RTI` (rules R237, R81). -/
def execRti (s : State) : Result := runOpcode 0x40#8 interruptReturn s

/-- `0x48` `PHA` (rules R220, R81). -/
def execPha (s : State) : Result := runOpcode 0x48#8 pushA s

/-- `0x58` `CLI` (rules R230, R81). -/
def execCli (s : State) : Result := runOpcode 0x58#8 clearInterruptDisable s

/-- `0x5A` `PHY` (rules R222, R81). -/
def execPhy (s : State) : Result := runOpcode 0x5A#8 pushY s

/-- `0x68` `PLA` (rules R224, R81). -/
def execPla (s : State) : Result := runOpcode 0x68#8 pullA s

/-- `0x78` `SEI` (rules R231, R81). -/
def execSei (s : State) : Result := runOpcode 0x78#8 setInterruptDisable s

/-- `0x7A` `PLY` (rules R226, R81). -/
def execPly (s : State) : Result := runOpcode 0x7A#8 pullY s

/-- `0xB8` `CLV` (rules R234, R81). -/
def execClv (s : State) : Result := runOpcode 0xB8#8 clearOverflow s

/-- `0xD8` `CLD` (rules R232, R81). -/
def execCld (s : State) : Result := runOpcode 0xD8#8 clearDecimal s

/-- `0xDA` `PHX` (rules R221, R81). -/
def execPhx (s : State) : Result := runOpcode 0xDA#8 pushX s

/-- `0xEA` `NOP` (rules R235, R81). -/
def execNop (s : State) : Result := runOpcode 0xEA#8 noOperation s

/-- `0xF8` `SED` (rules R233, R81). -/
def execSed (s : State) : Result := runOpcode 0xF8#8 setDecimal s

/-- `0xFA` `PLX` (rules R225, R81). -/
def execPlx (s : State) : Result := runOpcode 0xFA#8 pullX s

end Sys2Proof.Machine
end

