-- ==== Sys2Proof/Machine/Undefined.lean ====
section
/-! DEFINITION. The 46 undefined opcodes (30_encoding.md rule R68, 60_exceptions.md rule R260): one meaning per row, each
the fault `UndefinedOpcode(PC0, op)` under the policy of this machine (D6; log entry 5). -/

namespace Sys2Proof.Machine

/-- `0x02`, undefined (rule R68). -/
def execUnd02 (s : State) : Result := undefinedOpcode 0x02#8 s

/-- `0x03`, undefined (rule R68). -/
def execUnd03 (s : State) : Result := undefinedOpcode 0x03#8 s

/-- `0x0B`, undefined (rule R68). -/
def execUnd0B (s : State) : Result := undefinedOpcode 0x0B#8 s

/-- `0x13`, undefined (rule R68). -/
def execUnd13 (s : State) : Result := undefinedOpcode 0x13#8 s

/-- `0x1B`, undefined (rule R68). -/
def execUnd1B (s : State) : Result := undefinedOpcode 0x1B#8 s

/-- `0x22`, undefined (rule R68). -/
def execUnd22 (s : State) : Result := undefinedOpcode 0x22#8 s

/-- `0x23`, undefined (rule R68). -/
def execUnd23 (s : State) : Result := undefinedOpcode 0x23#8 s

/-- `0x2B`, undefined (rule R68). -/
def execUnd2B (s : State) : Result := undefinedOpcode 0x2B#8 s

/-- `0x33`, undefined (rule R68). -/
def execUnd33 (s : State) : Result := undefinedOpcode 0x33#8 s

/-- `0x3B`, undefined (rule R68). -/
def execUnd3B (s : State) : Result := undefinedOpcode 0x3B#8 s

/-- `0x42`, undefined (rule R68). -/
def execUnd42 (s : State) : Result := undefinedOpcode 0x42#8 s

/-- `0x43`, undefined (rule R68). -/
def execUnd43 (s : State) : Result := undefinedOpcode 0x43#8 s

/-- `0x44`, undefined (rule R68). -/
def execUnd44 (s : State) : Result := undefinedOpcode 0x44#8 s

/-- `0x4B`, undefined (rule R68). -/
def execUnd4B (s : State) : Result := undefinedOpcode 0x4B#8 s

/-- `0x53`, undefined (rule R68). -/
def execUnd53 (s : State) : Result := undefinedOpcode 0x53#8 s

/-- `0x54`, undefined (rule R68). -/
def execUnd54 (s : State) : Result := undefinedOpcode 0x54#8 s

/-- `0x5B`, undefined (rule R68). -/
def execUnd5B (s : State) : Result := undefinedOpcode 0x5B#8 s

/-- `0x5C`, undefined (rule R68). -/
def execUnd5C (s : State) : Result := undefinedOpcode 0x5C#8 s

/-- `0x62`, undefined (rule R68). -/
def execUnd62 (s : State) : Result := undefinedOpcode 0x62#8 s

/-- `0x63`, undefined (rule R68). -/
def execUnd63 (s : State) : Result := undefinedOpcode 0x63#8 s

/-- `0x6B`, undefined (rule R68). -/
def execUnd6B (s : State) : Result := undefinedOpcode 0x6B#8 s

/-- `0x73`, undefined (rule R68). -/
def execUnd73 (s : State) : Result := undefinedOpcode 0x73#8 s

/-- `0x7B`, undefined (rule R68). -/
def execUnd7B (s : State) : Result := undefinedOpcode 0x7B#8 s

/-- `0x82`, undefined (rule R68). -/
def execUnd82 (s : State) : Result := undefinedOpcode 0x82#8 s

/-- `0x83`, undefined (rule R68). -/
def execUnd83 (s : State) : Result := undefinedOpcode 0x83#8 s

/-- `0x8B`, undefined (rule R68). -/
def execUnd8B (s : State) : Result := undefinedOpcode 0x8B#8 s

/-- `0x93`, undefined (rule R68). -/
def execUnd93 (s : State) : Result := undefinedOpcode 0x93#8 s

/-- `0x9B`, undefined (rule R68). -/
def execUnd9B (s : State) : Result := undefinedOpcode 0x9B#8 s

/-- `0xA3`, undefined (rule R68). -/
def execUndA3 (s : State) : Result := undefinedOpcode 0xA3#8 s

/-- `0xAB`, undefined (rule R68). -/
def execUndAB (s : State) : Result := undefinedOpcode 0xAB#8 s

/-- `0xB3`, undefined (rule R68). -/
def execUndB3 (s : State) : Result := undefinedOpcode 0xB3#8 s

/-- `0xBB`, undefined (rule R68). -/
def execUndBB (s : State) : Result := undefinedOpcode 0xBB#8 s

/-- `0xC2`, undefined (rule R68). -/
def execUndC2 (s : State) : Result := undefinedOpcode 0xC2#8 s

/-- `0xC3`, undefined (rule R68). -/
def execUndC3 (s : State) : Result := undefinedOpcode 0xC3#8 s

/-- `0xCB`, undefined (rule R68). -/
def execUndCB (s : State) : Result := undefinedOpcode 0xCB#8 s

/-- `0xD3`, undefined (rule R68). -/
def execUndD3 (s : State) : Result := undefinedOpcode 0xD3#8 s

/-- `0xD4`, undefined (rule R68). -/
def execUndD4 (s : State) : Result := undefinedOpcode 0xD4#8 s

/-- `0xDB`, undefined (rule R68). -/
def execUndDB (s : State) : Result := undefinedOpcode 0xDB#8 s

/-- `0xDC`, undefined (rule R68). -/
def execUndDC (s : State) : Result := undefinedOpcode 0xDC#8 s

/-- `0xE2`, undefined (rule R68). -/
def execUndE2 (s : State) : Result := undefinedOpcode 0xE2#8 s

/-- `0xE3`, undefined (rule R68). -/
def execUndE3 (s : State) : Result := undefinedOpcode 0xE3#8 s

/-- `0xEB`, undefined (rule R68). -/
def execUndEB (s : State) : Result := undefinedOpcode 0xEB#8 s

/-- `0xF3`, undefined (rule R68). -/
def execUndF3 (s : State) : Result := undefinedOpcode 0xF3#8 s

/-- `0xF4`, undefined (rule R68). -/
def execUndF4 (s : State) : Result := undefinedOpcode 0xF4#8 s

/-- `0xFB`, undefined (rule R68). -/
def execUndFB (s : State) : Result := undefinedOpcode 0xFB#8 s

/-- `0xFC`, undefined (rule R68). -/
def execUndFC (s : State) : Result := undefinedOpcode 0xFC#8 s

end Sys2Proof.Machine
end

