-- ==== Sys2Proof/Machine/Dispatch.lean ====
section
/-! DEFINITION. One arm per constructor of `Instr`, in the order of the opcode table (30_encoding.md rules R64, R121). -/

namespace Sys2Proof.Machine

def exec (i : Instr) (s : State) : Host.Outcome State Fault Refusal :=
  match i with
  | .brk => Sys2Proof.Machine.execBrk s
  | .oraZpindx zz => Sys2Proof.Machine.execOraZpindx zz s
  | .und02 => Sys2Proof.Machine.execUnd02 s
  | .und03 => Sys2Proof.Machine.execUnd03 s
  | .tsbZp zz => Sys2Proof.Machine.execTsbZp zz s
  | .oraZp zz => Sys2Proof.Machine.execOraZp zz s
  | .aslZp zz => Sys2Proof.Machine.execAslZp zz s
  | .rmb0 zz => Sys2Proof.Machine.execRmb0 zz s
  | .php => Sys2Proof.Machine.execPhp s
  | .oraImm nn => Sys2Proof.Machine.execOraImm nn s
  | .aslAcc => Sys2Proof.Machine.execAslAcc s
  | .und0B => Sys2Proof.Machine.execUnd0B s
  | .tsbAbs addr => Sys2Proof.Machine.execTsbAbs addr s
  | .oraAbs addr => Sys2Proof.Machine.execOraAbs addr s
  | .aslAbs addr => Sys2Proof.Machine.execAslAbs addr s
  | .bbr0 zz off => Sys2Proof.Machine.execBbr0 zz off s
  | .bpl off => Sys2Proof.Machine.execBpl off s
  | .oraZpindy zz => Sys2Proof.Machine.execOraZpindy zz s
  | .oraZpind zz => Sys2Proof.Machine.execOraZpind zz s
  | .und13 => Sys2Proof.Machine.execUnd13 s
  | .trbZp zz => Sys2Proof.Machine.execTrbZp zz s
  | .oraZpx zz => Sys2Proof.Machine.execOraZpx zz s
  | .aslZpx zz => Sys2Proof.Machine.execAslZpx zz s
  | .rmb1 zz => Sys2Proof.Machine.execRmb1 zz s
  | .clc => Sys2Proof.Machine.execClc s
  | .oraAbsy addr => Sys2Proof.Machine.execOraAbsy addr s
  | .incAcc => Sys2Proof.Machine.execIncAcc s
  | .und1B => Sys2Proof.Machine.execUnd1B s
  | .trbAbs addr => Sys2Proof.Machine.execTrbAbs addr s
  | .oraAbsx addr => Sys2Proof.Machine.execOraAbsx addr s
  | .aslAbsx addr => Sys2Proof.Machine.execAslAbsx addr s
  | .bbr1 zz off => Sys2Proof.Machine.execBbr1 zz off s
  | .jsrAbs addr => Sys2Proof.Machine.execJsrAbs addr s
  | .andZpindx zz => Sys2Proof.Machine.execAndZpindx zz s
  | .und22 => Sys2Proof.Machine.execUnd22 s
  | .und23 => Sys2Proof.Machine.execUnd23 s
  | .bitZp zz => Sys2Proof.Machine.execBitZp zz s
  | .andZp zz => Sys2Proof.Machine.execAndZp zz s
  | .rolZp zz => Sys2Proof.Machine.execRolZp zz s
  | .rmb2 zz => Sys2Proof.Machine.execRmb2 zz s
  | .plp => Sys2Proof.Machine.execPlp s
  | .andImm nn => Sys2Proof.Machine.execAndImm nn s
  | .rolAcc => Sys2Proof.Machine.execRolAcc s
  | .und2B => Sys2Proof.Machine.execUnd2B s
  | .bitAbs addr => Sys2Proof.Machine.execBitAbs addr s
  | .andAbs addr => Sys2Proof.Machine.execAndAbs addr s
  | .rolAbs addr => Sys2Proof.Machine.execRolAbs addr s
  | .bbr2 zz off => Sys2Proof.Machine.execBbr2 zz off s
  | .bmi off => Sys2Proof.Machine.execBmi off s
  | .andZpindy zz => Sys2Proof.Machine.execAndZpindy zz s
  | .andZpind zz => Sys2Proof.Machine.execAndZpind zz s
  | .und33 => Sys2Proof.Machine.execUnd33 s
  | .bitZpx zz => Sys2Proof.Machine.execBitZpx zz s
  | .andZpx zz => Sys2Proof.Machine.execAndZpx zz s
  | .rolZpx zz => Sys2Proof.Machine.execRolZpx zz s
  | .rmb3 zz => Sys2Proof.Machine.execRmb3 zz s
  | .sec => Sys2Proof.Machine.execSec s
  | .andAbsy addr => Sys2Proof.Machine.execAndAbsy addr s
  | .decAcc => Sys2Proof.Machine.execDecAcc s
  | .und3B => Sys2Proof.Machine.execUnd3B s
  | .bitAbsx addr => Sys2Proof.Machine.execBitAbsx addr s
  | .andAbsx addr => Sys2Proof.Machine.execAndAbsx addr s
  | .rolAbsx addr => Sys2Proof.Machine.execRolAbsx addr s
  | .bbr3 zz off => Sys2Proof.Machine.execBbr3 zz off s
  | .rti => Sys2Proof.Machine.execRti s
  | .eorZpindx zz => Sys2Proof.Machine.execEorZpindx zz s
  | .und42 => Sys2Proof.Machine.execUnd42 s
  | .und43 => Sys2Proof.Machine.execUnd43 s
  | .und44 => Sys2Proof.Machine.execUnd44 s
  | .eorZp zz => Sys2Proof.Machine.execEorZp zz s
  | .lsrZp zz => Sys2Proof.Machine.execLsrZp zz s
  | .rmb4 zz => Sys2Proof.Machine.execRmb4 zz s
  | .pha => Sys2Proof.Machine.execPha s
  | .eorImm nn => Sys2Proof.Machine.execEorImm nn s
  | .lsrAcc => Sys2Proof.Machine.execLsrAcc s
  | .und4B => Sys2Proof.Machine.execUnd4B s
  | .jmpAbs addr => Sys2Proof.Machine.execJmpAbs addr s
  | .eorAbs addr => Sys2Proof.Machine.execEorAbs addr s
  | .lsrAbs addr => Sys2Proof.Machine.execLsrAbs addr s
  | .bbr4 zz off => Sys2Proof.Machine.execBbr4 zz off s
  | .bvc off => Sys2Proof.Machine.execBvc off s
  | .eorZpindy zz => Sys2Proof.Machine.execEorZpindy zz s
  | .eorZpind zz => Sys2Proof.Machine.execEorZpind zz s
  | .und53 => Sys2Proof.Machine.execUnd53 s
  | .und54 => Sys2Proof.Machine.execUnd54 s
  | .eorZpx zz => Sys2Proof.Machine.execEorZpx zz s
  | .lsrZpx zz => Sys2Proof.Machine.execLsrZpx zz s
  | .rmb5 zz => Sys2Proof.Machine.execRmb5 zz s
  | .cli => Sys2Proof.Machine.execCli s
  | .eorAbsy addr => Sys2Proof.Machine.execEorAbsy addr s
  | .phy => Sys2Proof.Machine.execPhy s
  | .und5B => Sys2Proof.Machine.execUnd5B s
  | .und5C => Sys2Proof.Machine.execUnd5C s
  | .eorAbsx addr => Sys2Proof.Machine.execEorAbsx addr s
  | .lsrAbsx addr => Sys2Proof.Machine.execLsrAbsx addr s
  | .bbr5 zz off => Sys2Proof.Machine.execBbr5 zz off s
  | .rts => Sys2Proof.Machine.execRts s
  | .adcZpindx zz => Sys2Proof.Machine.execAdcZpindx zz s
  | .und62 => Sys2Proof.Machine.execUnd62 s
  | .und63 => Sys2Proof.Machine.execUnd63 s
  | .stzZp zz => Sys2Proof.Machine.execStzZp zz s
  | .adcZp zz => Sys2Proof.Machine.execAdcZp zz s
  | .rorZp zz => Sys2Proof.Machine.execRorZp zz s
  | .rmb6 zz => Sys2Proof.Machine.execRmb6 zz s
  | .pla => Sys2Proof.Machine.execPla s
  | .adcImm nn => Sys2Proof.Machine.execAdcImm nn s
  | .rorAcc => Sys2Proof.Machine.execRorAcc s
  | .und6B => Sys2Proof.Machine.execUnd6B s
  | .jmpInd addr => Sys2Proof.Machine.execJmpInd addr s
  | .adcAbs addr => Sys2Proof.Machine.execAdcAbs addr s
  | .rorAbs addr => Sys2Proof.Machine.execRorAbs addr s
  | .bbr6 zz off => Sys2Proof.Machine.execBbr6 zz off s
  | .bvs off => Sys2Proof.Machine.execBvs off s
  | .adcZpindy zz => Sys2Proof.Machine.execAdcZpindy zz s
  | .adcZpind zz => Sys2Proof.Machine.execAdcZpind zz s
  | .und73 => Sys2Proof.Machine.execUnd73 s
  | .stzZpx zz => Sys2Proof.Machine.execStzZpx zz s
  | .adcZpx zz => Sys2Proof.Machine.execAdcZpx zz s
  | .rorZpx zz => Sys2Proof.Machine.execRorZpx zz s
  | .rmb7 zz => Sys2Proof.Machine.execRmb7 zz s
  | .sei => Sys2Proof.Machine.execSei s
  | .adcAbsy addr => Sys2Proof.Machine.execAdcAbsy addr s
  | .ply => Sys2Proof.Machine.execPly s
  | .und7B => Sys2Proof.Machine.execUnd7B s
  | .jmpAbsindx addr => Sys2Proof.Machine.execJmpAbsindx addr s
  | .adcAbsx addr => Sys2Proof.Machine.execAdcAbsx addr s
  | .rorAbsx addr => Sys2Proof.Machine.execRorAbsx addr s
  | .bbr7 zz off => Sys2Proof.Machine.execBbr7 zz off s
  | .bra off => Sys2Proof.Machine.execBra off s
  | .staZpindx zz => Sys2Proof.Machine.execStaZpindx zz s
  | .und82 => Sys2Proof.Machine.execUnd82 s
  | .und83 => Sys2Proof.Machine.execUnd83 s
  | .styZp zz => Sys2Proof.Machine.execStyZp zz s
  | .staZp zz => Sys2Proof.Machine.execStaZp zz s
  | .stxZp zz => Sys2Proof.Machine.execStxZp zz s
  | .smb0 zz => Sys2Proof.Machine.execSmb0 zz s
  | .dey => Sys2Proof.Machine.execDey s
  | .bitImm nn => Sys2Proof.Machine.execBitImm nn s
  | .txa => Sys2Proof.Machine.execTxa s
  | .und8B => Sys2Proof.Machine.execUnd8B s
  | .styAbs addr => Sys2Proof.Machine.execStyAbs addr s
  | .staAbs addr => Sys2Proof.Machine.execStaAbs addr s
  | .stxAbs addr => Sys2Proof.Machine.execStxAbs addr s
  | .bbs0 zz off => Sys2Proof.Machine.execBbs0 zz off s
  | .bcc off => Sys2Proof.Machine.execBcc off s
  | .staZpindy zz => Sys2Proof.Machine.execStaZpindy zz s
  | .staZpind zz => Sys2Proof.Machine.execStaZpind zz s
  | .und93 => Sys2Proof.Machine.execUnd93 s
  | .styZpx zz => Sys2Proof.Machine.execStyZpx zz s
  | .staZpx zz => Sys2Proof.Machine.execStaZpx zz s
  | .stxZpy zz => Sys2Proof.Machine.execStxZpy zz s
  | .smb1 zz => Sys2Proof.Machine.execSmb1 zz s
  | .tya => Sys2Proof.Machine.execTya s
  | .staAbsy addr => Sys2Proof.Machine.execStaAbsy addr s
  | .txs => Sys2Proof.Machine.execTxs s
  | .und9B => Sys2Proof.Machine.execUnd9B s
  | .stzAbs addr => Sys2Proof.Machine.execStzAbs addr s
  | .staAbsx addr => Sys2Proof.Machine.execStaAbsx addr s
  | .stzAbsx addr => Sys2Proof.Machine.execStzAbsx addr s
  | .bbs1 zz off => Sys2Proof.Machine.execBbs1 zz off s
  | .ldyImm nn => Sys2Proof.Machine.execLdyImm nn s
  | .ldaZpindx zz => Sys2Proof.Machine.execLdaZpindx zz s
  | .ldxImm nn => Sys2Proof.Machine.execLdxImm nn s
  | .undA3 => Sys2Proof.Machine.execUndA3 s
  | .ldyZp zz => Sys2Proof.Machine.execLdyZp zz s
  | .ldaZp zz => Sys2Proof.Machine.execLdaZp zz s
  | .ldxZp zz => Sys2Proof.Machine.execLdxZp zz s
  | .smb2 zz => Sys2Proof.Machine.execSmb2 zz s
  | .tay => Sys2Proof.Machine.execTay s
  | .ldaImm nn => Sys2Proof.Machine.execLdaImm nn s
  | .tax => Sys2Proof.Machine.execTax s
  | .undAB => Sys2Proof.Machine.execUndAB s
  | .ldyAbs addr => Sys2Proof.Machine.execLdyAbs addr s
  | .ldaAbs addr => Sys2Proof.Machine.execLdaAbs addr s
  | .ldxAbs addr => Sys2Proof.Machine.execLdxAbs addr s
  | .bbs2 zz off => Sys2Proof.Machine.execBbs2 zz off s
  | .bcs off => Sys2Proof.Machine.execBcs off s
  | .ldaZpindy zz => Sys2Proof.Machine.execLdaZpindy zz s
  | .ldaZpind zz => Sys2Proof.Machine.execLdaZpind zz s
  | .undB3 => Sys2Proof.Machine.execUndB3 s
  | .ldyZpx zz => Sys2Proof.Machine.execLdyZpx zz s
  | .ldaZpx zz => Sys2Proof.Machine.execLdaZpx zz s
  | .ldxZpy zz => Sys2Proof.Machine.execLdxZpy zz s
  | .smb3 zz => Sys2Proof.Machine.execSmb3 zz s
  | .clv => Sys2Proof.Machine.execClv s
  | .ldaAbsy addr => Sys2Proof.Machine.execLdaAbsy addr s
  | .tsx => Sys2Proof.Machine.execTsx s
  | .undBB => Sys2Proof.Machine.execUndBB s
  | .ldyAbsx addr => Sys2Proof.Machine.execLdyAbsx addr s
  | .ldaAbsx addr => Sys2Proof.Machine.execLdaAbsx addr s
  | .ldxAbsy addr => Sys2Proof.Machine.execLdxAbsy addr s
  | .bbs3 zz off => Sys2Proof.Machine.execBbs3 zz off s
  | .cpyImm nn => Sys2Proof.Machine.execCpyImm nn s
  | .cmpZpindx zz => Sys2Proof.Machine.execCmpZpindx zz s
  | .undC2 => Sys2Proof.Machine.execUndC2 s
  | .undC3 => Sys2Proof.Machine.execUndC3 s
  | .cpyZp zz => Sys2Proof.Machine.execCpyZp zz s
  | .cmpZp zz => Sys2Proof.Machine.execCmpZp zz s
  | .decZp zz => Sys2Proof.Machine.execDecZp zz s
  | .smb4 zz => Sys2Proof.Machine.execSmb4 zz s
  | .iny => Sys2Proof.Machine.execIny s
  | .cmpImm nn => Sys2Proof.Machine.execCmpImm nn s
  | .dex => Sys2Proof.Machine.execDex s
  | .undCB => Sys2Proof.Machine.execUndCB s
  | .cpyAbs addr => Sys2Proof.Machine.execCpyAbs addr s
  | .cmpAbs addr => Sys2Proof.Machine.execCmpAbs addr s
  | .decAbs addr => Sys2Proof.Machine.execDecAbs addr s
  | .bbs4 zz off => Sys2Proof.Machine.execBbs4 zz off s
  | .bne off => Sys2Proof.Machine.execBne off s
  | .cmpZpindy zz => Sys2Proof.Machine.execCmpZpindy zz s
  | .cmpZpind zz => Sys2Proof.Machine.execCmpZpind zz s
  | .undD3 => Sys2Proof.Machine.execUndD3 s
  | .undD4 => Sys2Proof.Machine.execUndD4 s
  | .cmpZpx zz => Sys2Proof.Machine.execCmpZpx zz s
  | .decZpx zz => Sys2Proof.Machine.execDecZpx zz s
  | .smb5 zz => Sys2Proof.Machine.execSmb5 zz s
  | .cld => Sys2Proof.Machine.execCld s
  | .cmpAbsy addr => Sys2Proof.Machine.execCmpAbsy addr s
  | .phx => Sys2Proof.Machine.execPhx s
  | .undDB => Sys2Proof.Machine.execUndDB s
  | .undDC => Sys2Proof.Machine.execUndDC s
  | .cmpAbsx addr => Sys2Proof.Machine.execCmpAbsx addr s
  | .decAbsx addr => Sys2Proof.Machine.execDecAbsx addr s
  | .bbs5 zz off => Sys2Proof.Machine.execBbs5 zz off s
  | .cpxImm nn => Sys2Proof.Machine.execCpxImm nn s
  | .sbcZpindx zz => Sys2Proof.Machine.execSbcZpindx zz s
  | .undE2 => Sys2Proof.Machine.execUndE2 s
  | .undE3 => Sys2Proof.Machine.execUndE3 s
  | .cpxZp zz => Sys2Proof.Machine.execCpxZp zz s
  | .sbcZp zz => Sys2Proof.Machine.execSbcZp zz s
  | .incZp zz => Sys2Proof.Machine.execIncZp zz s
  | .smb6 zz => Sys2Proof.Machine.execSmb6 zz s
  | .inx => Sys2Proof.Machine.execInx s
  | .sbcImm nn => Sys2Proof.Machine.execSbcImm nn s
  | .nop => Sys2Proof.Machine.execNop s
  | .undEB => Sys2Proof.Machine.execUndEB s
  | .cpxAbs addr => Sys2Proof.Machine.execCpxAbs addr s
  | .sbcAbs addr => Sys2Proof.Machine.execSbcAbs addr s
  | .incAbs addr => Sys2Proof.Machine.execIncAbs addr s
  | .bbs6 zz off => Sys2Proof.Machine.execBbs6 zz off s
  | .beq off => Sys2Proof.Machine.execBeq off s
  | .sbcZpindy zz => Sys2Proof.Machine.execSbcZpindy zz s
  | .sbcZpind zz => Sys2Proof.Machine.execSbcZpind zz s
  | .undF3 => Sys2Proof.Machine.execUndF3 s
  | .undF4 => Sys2Proof.Machine.execUndF4 s
  | .sbcZpx zz => Sys2Proof.Machine.execSbcZpx zz s
  | .incZpx zz => Sys2Proof.Machine.execIncZpx zz s
  | .smb7 zz => Sys2Proof.Machine.execSmb7 zz s
  | .sed => Sys2Proof.Machine.execSed s
  | .sbcAbsy addr => Sys2Proof.Machine.execSbcAbsy addr s
  | .plx => Sys2Proof.Machine.execPlx s
  | .undFB => Sys2Proof.Machine.execUndFB s
  | .undFC => Sys2Proof.Machine.execUndFC s
  | .sbcAbsx addr => Sys2Proof.Machine.execSbcAbsx addr s
  | .incAbsx addr => Sys2Proof.Machine.execIncAbsx addr s
  | .bbs7 zz off => Sys2Proof.Machine.execBbs7 zz off s

end Sys2Proof.Machine
end

