-- ==== Sys2Proof/Machine/Fetch.lean ====
section
/-! DEFINITION. Fetching an instruction's bytes (rule R120 steps 1 and 2, 20_memory.md rule R47 steps 1 and 2), and
placing a table word where the next step fetches. -/

namespace Sys2Proof.Machine

/-- Reads the opcode at `PC0` and the operand bytes of its mode at `PC0 + 1`, `PC0 + 2`, in that order (rules R47, R60,
R97), and decodes them. -/
def fetch (s : State) : Instr × State :=
  let op := memRead s.pc s
  match operandByteCount op.1 with
  | 0 => (decode op.1 0#8 0#8, op.2)
  | 1 =>
    let b1 := memRead (s.pc + 1#16) op.2
    (decode op.1 b1.1 0#8, b1.2)
  | _ =>
    let b1 := memRead (s.pc + 1#16) op.2
    let b2 := memRead (s.pc + 2#16) b1.2
    (decode op.1 b1.1 b2.1, b2.2)

/-- The start of a control transaction: no bus transaction yet (log entry 4). -/
def State.clearBus (s : State) : State := s.setBus []

/-- Stores three bytes at `PC`, `PC + 1`, `PC + 2`. -/
def placeAtPc (s : State) (b0 b1 b2 : Byte) : State :=
  s.setMem (((s.mem.write s.pc b0).write (s.pc + 1#16) b1).write (s.pc + 2#16) b2)

end Sys2Proof.Machine
end

