-- ==== Sys2Proof/Machine/Step.lean ====
section
/-! DEFINITION. One `Step()` (42_execution_engine.md rule R120): fetch, decode, resolve, execute. -/

namespace Sys2Proof.Machine

/-- `Step()`: exactly one instruction, or the fault of rule R260 (rules R120, R129). -/
def step (s : State) : Host.Outcome State Fault Refusal :=
  let f := fetch s.clearBus
  exec f.1 f.2

/-- `s` with the instruction of a table word at `PC`, where `step` fetches its next instruction (log entry 11). -/
def State.withFetchWord (s : State) (nbits w : Nat) : State :=
  placeAtPc s (tableByte nbits w 0) (tableByte nbits w 1) (tableByte nbits w 2)

end Sys2Proof.Machine
end

