-- ==== Sys2Proof/Machine/Interrupt.lean ====
section
/-! DEFINITION. The control transactions of the external driver other than `Step()`: `Interrupt`, `InterruptAt`
(60_exceptions.md rules R261 to R263) and `Reset()` (70_reset_and_hazards.md rule R291). -/

namespace Sys2Proof.Machine

/-- `InterruptAt(target, brk)`: the entry sequence, with no mask test and no vector read (rule R261, D14). -/
def interruptAt (target : Address) (brk : Bool) (s : State) : State := interruptEntry target brk s.clearBus

/-- The two vector reads and the entry sequence of an interrupt that is taken (rules R262, R263). -/
def interruptThrough (vector : Address) (s : State) : State :=
  let t := read16 vector s
  interruptEntry t.1 false t.2

/-- `Interrupt(is_nmi)`: the non-maskable request is always taken, the maskable one is dropped while `I = 1`
(rules R262, R263). -/
def interrupt (isNmi : Bool) (s : State) : State :=
  if isNmi then interruptThrough config.vecNmi s.clearBus
  else if s.flags.i then s.clearBus
  else interruptThrough config.vecIrq s.clearBus

/-- `Reset()` on an instance whose cycle count is `cyc` and whose bus target holds `mem`: nothing else of the state
before is kept (rule R291). -/
def resetWith (cyc : CycleCount) (mem : Memory) : State :=
  { State.reset with
    pc := mem.word config.vecReset
    cyc := cyc
    mem := mem
    bus := [.read config.vecReset (mem.read config.vecReset),
            .read (config.vecReset + 1#16) (mem.read (config.vecReset + 1#16))] }

end Sys2Proof.Machine
end

