-- ==== Sys2Proof/Machine/Driver.lean ====
section
/-! DEFINITION. An instance from its construction on, and what the external driver may do to it between steps
(00_scope.md rules R10, R11; 60_exceptions.md rule R268; 70_reset_and_hazards.md rule R290). -/

namespace Sys2Proof.Machine

/-- `CLOCK_RATIO`: recorded at construction, read by no rule (rule R8). -/
structure ClockRatio where
  /-- the numerator -/
  numerator : Nat
  /-- the denominator -/
  denominator : Nat
  deriving DecidableEq, Repr

/-- The block of an instance. -/
inductive Phase where
  /-- between `Init` and the first `Reset()`: `CYC` and the bus target exist, every other register and flag holds no
  value (rules R38, R290, D17) -/
  | constructed (cyc : CycleCount) (mem : Memory)
  /-- after a `Reset()` (rule R291) -/
  | running (s : State)
  deriving DecidableEq, Repr

/-- One instance: the clock ratio bound at `Init` and the block. -/
structure Instance where
  /-- `CLOCK_RATIO` (rule R8) -/
  clockRatio : ClockRatio
  /-- the block -/
  phase : Phase
  deriving DecidableEq, Repr

/-- `Init(clock_ratio, bus)`: binds the bus target, records the ratio, `CYC <- 0`, no bus transaction (rule R290). -/
def Instance.init (ratio : ClockRatio) (mem : Memory) : Instance :=
  { clockRatio := ratio, phase := .constructed 0#64 mem }

/-- What can happen to an instance between two steps, or be a step (rules R10, R268). -/
inductive Event where
  /-- `Reset()` -/
  | reset
  /-- `Step()` -/
  | step
  /-- `Interrupt(is_nmi)` -/
  | interrupt (isNmi : Bool)
  /-- `InterruptAt(target, brk)` -/
  | interruptAt (target : Address) (brk : Bool)
  /-- the bus target changes a byte between transactions, a device register or another board (rule R268; log entry 12) -/
  | busTarget (addr : Address) (value : Byte)
  deriving DecidableEq, Repr

/-- The block after an event. Before the first `Reset()` the transactions that need register values are refused
(rules R38, R290, D17). -/
def Phase.handle (e : Event) (p : Phase) : Host.Outcome Phase Fault Refusal :=
  match p, e with
  | .constructed cyc mem, .reset => .next (.running (resetWith cyc mem))
  | .constructed cyc mem, .busTarget addr value => .next (.constructed cyc (mem.write addr value))
  | .constructed _ _, .step => .refused .beforeFirstReset
  | .constructed _ _, .interrupt _ => .refused .beforeFirstReset
  | .constructed _ _, .interruptAt _ _ => .refused .beforeFirstReset
  | .running s, .reset => .next (.running (resetWith s.cyc s.mem))
  | .running s, .busTarget addr value => .next (.running (s.setMem (s.mem.write addr value)))
  | .running s, .step =>
    match step s with
    | .next t => .next (.running t)
    | .fault r => .fault r
    | .refused r => .refused r
  | .running s, .interrupt isNmi => .next (.running (Machine.interrupt isNmi s))
  | .running s, .interruptAt target brk => .next (.running (Machine.interruptAt target brk s))

/-- An instance after an event; the clock ratio never changes (rules R8, R291). -/
def Instance.handle (e : Event) (m : Instance) : Host.Outcome Instance Fault Refusal :=
  match m.phase.handle e with
  | .next p => .next { m with phase := p }
  | .fault r => .fault r
  | .refused r => .refused r

/-- The instance the driver goes on with: the block keeps no fault latch, so a fault, like a refusal, leaves the instance
as it was before the event (rules R129, R260, D22). -/
def Instance.after (e : Event) (m : Instance) : Instance :=
  match m.handle e with
  | .next m' => m'
  | .fault _ => m
  | .refused _ => m

end Sys2Proof.Machine
end

