-- ==== Sys2Proof/WellFormed.lean ====
section
/-! DEFINITION. Which terms of `Instr` are instructions of the block (30_encoding.md rules R68, R69).

Operand fields are bytes and addresses, and "for a defined opcode every value of the operand bytes is legal" (rule R69),
so the one check is that the opcode is defined. -/

namespace Sys2Proof

/-- The opcode has a mnemonic: it is one of the 210 defined opcodes (rules R64, R68, R69). -/
def Instr.wellFormed (i : Instr) : Bool :=
  match i.mnemonic with
  | .undefined => false
  | _ => true

end Sys2Proof
end

