-- ==== Sys2Proof/Safety.lean ====
section
/-! DEFINITION. The terms in which statements about the machine are written: what counts as a completed instruction, the
invariant, what a frame says of memory, and the reads of the resolver. -/

namespace Sys2Proof.Machine

/-! ### Completion -/

/-- The instruction `i`, run in `s`, answers a next state, and that state satisfies `P`. -/
def Completes (i : Instr) (s : State) (P : State → Prop) : Prop := ∃ t, exec i s = .next t ∧ P t

/-- `i` was not a control transfer: the program counter is past its `LEN` bytes and `CYC` has grown by its base cycles
(rules R123, R124). -/
def Continues (i : Instr) (s t : State) : Prop :=
  t.pc = s.pc + BitVec.ofNat 16 i.length ∧ t.cyc = s.cyc + BitVec.ofNat 64 i.baseCycles

/-- `i` went to `target`, and `CYC` has grown by its base cycles (rules R123, R124). -/
def GoesTo (target : Address) (i : Instr) (s t : State) : Prop :=
  t.pc = target ∧ t.cyc = s.cyc + BitVec.ofNat 64 i.baseCycles

/-! ### The invariant (rule R39; the widths of rule R39 are in the types) -/

/-- The memory is in its canonical form. -/
def CanonicalMemory (s : State) : Prop := s.mem.wf = true

/-- The memory behind a block, constructed or running, is in its canonical form. -/
def Phase.CanonicalMemory : Phase → Prop
  | .constructed _ mem => mem.wf = true
  | .running s => s.mem.wf = true

/-! ### Frames over memory -/

/-- Every byte of memory reads as before. -/
def SameBytes (s t : State) : Prop := ∀ b : Address, t.peek b = s.peek b

/-- The byte at `ea` is `v` and every other byte reads as before. -/
def StoresByte (ea : Address) (v : Byte) (s t : State) : Prop :=
  t.peek ea = v ∧ ∀ b : Address, b ≠ ea → t.peek b = s.peek b

/-! ### Rows of the decoder table -/

/-- The opcode and the mode of `i` are one of these rows. -/
def InRows (i : Instr) (rows : List (Byte × Mode)) : Prop := ∃ p ∈ rows, i.opcode = p.1 ∧ i.mode = some p.2

/-! ### Operands and the reads they take -/

/-- The little-endian word at `a`. -/
def State.peek16 (s : State) (a : Address) : Address := wordOf (s.peek (a + 1#16)) (s.peek a)

/-- The two bus reads of `Read16(a)`, low byte first (rule R41). -/
def wordReads (a : Address) (s : State) : List BusAccess :=
  [.read a (s.peek a), .read (a + 1#16) (s.peek (a + 1#16))]

/-- The two bus reads of `Read16ZP(p)` (rule R42). -/
def zeroPageWordReads (p : Byte) (s : State) : List BusAccess :=
  [.read (zext16 p) (s.peek (zext16 p)), .read (zext16 (p + 1#8)) (s.peek (zext16 (p + 1#8)))]

/-- The pointer reads of an operand, in order: what rule R97 lists after the operand bytes. -/
def pointerReads (m : MemOperand) (s : State) : List BusAccess :=
  match m with
  | .ind addr => wordReads addr s
  | .absindx addr => wordReads (addr + zext16 s.x) s
  | .zpind zz => zeroPageWordReads zz s
  | .zpindx zz => zeroPageWordReads (zz + s.x) s
  | .zpindy zz => zeroPageWordReads zz s
  | _ => []

/-- `EA` of an operand in a state (rules R83 to R94). -/
def operandAddress (m : MemOperand) (s : State) : Address := (effectiveAddress m s).1

/-- The operand byte `M`: the immediate byte, or the byte at `EA`. -/
def operandByte (m : MemOperand) (s : State) : Byte :=
  match m with
  | .imm nn => nn
  | _ => s.peek (operandAddress m s)

/-- The bus reads of an instruction that reads its operand, after its own bytes: the pointer reads, then the read of `EA`;
none for an immediate, whose byte the fetch has read (rules R47, R83). -/
def operandReads (m : MemOperand) (s : State) : List BusAccess :=
  match m with
  | .imm _ => []
  | _ => pointerReads m s ++ [.read (operandAddress m s) (s.peek (operandAddress m s))]

/-- The bus reads of the fetch at `PC0`: the opcode, then the operand bytes of its mode (rules R47, R97). -/
def fetchReads (s : State) : List BusAccess :=
  ([s.pc, s.pc + 1#16, s.pc + 2#16].take (1 + operandByteCount (s.peek s.pc))).map fun a => .read a (s.peek a)

/-- Whether a bus transaction is a read. -/
def BusAccess.isRead : BusAccess → Bool
  | .read _ _ => true
  | .write _ _ => false

/-- Memory after the writes of a list of bus transactions, in order. -/
def Memory.applyWrites : Memory → List BusAccess → Memory
  | m, [] => m
  | m, .read _ _ :: rest => Memory.applyWrites m rest
  | m, .write a v :: rest => Memory.applyWrites (m.write a v) rest

/-! ### The arithmetic of the rules, on numbers -/

/-- The flags after the generic rule with mask `NZ` on the result byte `r` (rule R110). -/
def resultFlags (r : Byte) (f : Flags) : Flags :=
  { f with n := decide (128 ≤ r.toNat), z := decide (r.toNat = 0) }

/-- The unbounded sum of rule R100, on numbers: `a + m + c` in binary mode, digit by digit with the two corrections in
decimal mode. -/
def specSum (dec : Bool) (a m c : Nat) : Nat :=
  if dec then
    let lo := a % 16 + m % 16 + c
    let lo := if lo < 10 then lo else lo + 6
    let sum := 16 * (a / 16) + 16 * (m / 16) + lo
    if sum < 160 then sum else sum + 96
  else a + m + c

/-- The operand the subtraction gives to the adder, on numbers (rule R102). -/
def specSubtrahend (dec : Bool) (m : Nat) : Nat := if dec then (153 + 256 - m) % 256 else 255 - m

/-- `a` and `m` have the same sign and `r` the other (rule R101). -/
def signsOverflow (a m r : Byte) : Bool := (a.msb == m.msb) && (r.msb != a.msb)

/-- A byte whose two nibbles are decimal digits (rule R103). -/
def validBcd (b : Byte) : Bool := decide (b.toNat % 16 ≤ 9) && decide (b.toNat / 16 ≤ 9)

/-- The value of a valid BCD byte, 0 to 99 (rule R103). -/
def bcdValue (b : Byte) : Nat := 10 * (b.toNat / 16) + b.toNat % 16

end Sys2Proof.Machine
end

