-- ==== Sys2Proof/Certificates/Slice0/Obligations.lean ====
section
/-! DEFINITION. The statements for the provers. Numbers stand for the spec's own numbers: addresses and bytes are compared
with arithmetic on `Nat` and `Int` as the rules write it. -/

open Sys2Proof Sys2Proof.Machine

/-! ## Encoding -/

/-- The sixteen example words of rule R70, one per mode, decode to the instructions they stand for. -/
def Obligations.ExampleWordsDecode : Prop :=
  decodeBytes [0x18#8] = .ok (.clc, []) ∧
  decodeBytes [0x0A#8] = .ok (.aslAcc, []) ∧
  decodeBytes [0xA9#8, 0x10#8] = .ok (.ldaImm 0x10#8, []) ∧
  decodeBytes [0xA5#8, 0x10#8] = .ok (.ldaZp 0x10#8, []) ∧
  decodeBytes [0xB5#8, 0x10#8] = .ok (.ldaZpx 0x10#8, []) ∧
  decodeBytes [0xB6#8, 0x10#8] = .ok (.ldxZpy 0x10#8, []) ∧
  decodeBytes [0xAD#8, 0x34#8, 0x12#8] = .ok (.ldaAbs 0x1234#16, []) ∧
  decodeBytes [0xBD#8, 0x34#8, 0x12#8] = .ok (.ldaAbsx 0x1234#16, []) ∧
  decodeBytes [0xB9#8, 0x34#8, 0x12#8] = .ok (.ldaAbsy 0x1234#16, []) ∧
  decodeBytes [0x6C#8, 0x34#8, 0x12#8] = .ok (.jmpInd 0x1234#16, []) ∧
  decodeBytes [0x7C#8, 0x34#8, 0x12#8] = .ok (.jmpAbsindx 0x1234#16, []) ∧
  decodeBytes [0xB2#8, 0x10#8] = .ok (.ldaZpind 0x10#8, []) ∧
  decodeBytes [0xA1#8, 0x10#8] = .ok (.ldaZpindx 0x10#8, []) ∧
  decodeBytes [0xB1#8, 0x10#8] = .ok (.ldaZpindy 0x10#8, []) ∧
  decodeBytes [0xD0#8, 0xFB#8] = .ok (.bne 0xFB#8, []) ∧
  decodeBytes [0x0F#8, 0x10#8, 0x02#8] = .ok (.bbr0 0x10#8 0x02#8, [])

/-- Decoding the bytes of any instruction gives the instruction back and leaves what follows (rules R60, R62, R63). -/
def Obligations.DecodeInvertsEncode : Prop :=
  ∀ (i : Instr) (rest : List Byte), decodeBytes (encode i ++ rest) = .ok (i, rest)

/-- A string of bytes decodes exactly when it holds `LEN` bytes; the instruction then has its opcode and its operand
bytes, and the rest starts `LEN` bytes on (rules R60, R62, R63). That a shorter string is the error `truncated` is the
model's own choice (log entry 23): the spec has no short strings. -/
def Obligations.DecodedInstructionHasItsBytes : Prop :=
  ∀ (op : Byte) (tail : List Byte),
    ((descriptor op).length ≤ tail.length + 1 →
      ∃ i, decodeBytes (op :: tail) = .ok (i, (op :: tail).drop (descriptor op).length) ∧ i.opcode = op ∧
        i.operandBytes = tail.take (operandByteCount op)) ∧
    (tail.length + 1 < (descriptor op).length → decodeBytes (op :: tail) = .error (.truncated op))

/-- The regularities of the decoder table (rule R65). -/
def Obligations.TableRegularities : Prop :=
  (∀ n : Fin 8,
    (descriptor (BitVec.ofNat 8 (0x07 + 16 * n.val))).mnemonic = .rmb n ∧
    (descriptor (BitVec.ofNat 8 (0x87 + 16 * n.val))).mnemonic = .smb n ∧
    (descriptor (BitVec.ofNat 8 (0x0F + 16 * n.val))).mnemonic = .bbr n ∧
    (descriptor (BitVec.ofNat 8 (0x8F + 16 * n.val))).mnemonic = .bbs n) ∧
  (∀ k : Fin 8, (descriptor (BitVec.ofNat 8 (0x10 + 0x20 * k.val))).mnemonic =
    [Mnemonic.bpl, .bmi, .bvc, .bvs, .bcc, .bcs, .bne, .beq].getD k.val .undefined) ∧
  (∀ g : Fin 8, ∀ p ∈ [(0x01, Mode.zpindx), (0x05, .zp), (0x09, .imm), (0x0D, .abs), (0x11, .zpindy), (0x12, .zpind),
      (0x15, .zpx), (0x19, .absy), (0x1D, .absx)],
    32 * g.val + p.1 ≠ 0x89 →
      (descriptor (BitVec.ofNat 8 (32 * g.val + p.1))).mnemonic =
        [Mnemonic.ora, .and, .eor, .adc, .sta, .lda, .cmp, .sbc].getD g.val .undefined ∧
      (descriptor (BitVec.ofNat 8 (32 * g.val + p.1))).mode = some p.2) ∧
  (descriptor 0x89#8).mnemonic = .bit ∧ (descriptor 0x89#8).mode = some .imm

/-- The flag mask of every opcode, by its mnemonic (rule R66). -/
def Obligations.FlagMaskByMnemonic : Prop :=
  ∀ op : Byte,
    ((descriptor op).mnemonic ∈ [Mnemonic.ora, .and, .eor, .adc, .sbc, .cmp, .cpx, .cpy, .lda, .ldx, .ldy, .tax, .tay, .txa,
      .tya, .tsx, .inx, .iny, .dex, .dey, .inc, .dec, .asl, .lsr, .rol, .ror, .pla, .plx, .ply] →
      (descriptor op).flagMask = .nz) ∧
    ((descriptor op).mnemonic = .bit → (descriptor op).flagMask =
      if (descriptor op).mode = some .imm then FlagMask.none else .n) ∧
    ((descriptor op).mnemonic ∉ [Mnemonic.ora, .and, .eor, .adc, .sbc, .cmp, .cpx, .cpy, .lda, .ldx, .ldy, .tax, .tay, .txa,
      .tya, .tsx, .inx, .iny, .dex, .dey, .inc, .dec, .asl, .lsr, .rol, .ror, .pla, .plx, .ply, .bit] →
      (descriptor op).flagMask = .none)

/-- The base cycles of a defined opcode by its mnemonic and mode: the summary that closes rule R294, with rule R67 for the
bit instructions and `TSB`, `TRB` among the read-modify-write mnemonics. -/
def Sys2Proof.Machine.cyclesByMode (mn : Mnemonic) (mode : Mode) : Nat :=
  match mn with
  | .brk => 7
  | .jsr | .rts | .rti => 6
  | .pha | .phx | .phy | .php => 3
  | .pla | .plx | .ply | .plp => 4
  | .bra => 3
  | .rmb _ | .smb _ | .bbr _ | .bbs _ => 5
  | .jmp => if mode = .abs then 3 else 6
  | .inc | .dec | .asl | .lsr | .rol | .ror | .tsb | .trb =>
    match mode with
    | .acc => 2
    | .zp => 5
    | .absx => if mn = .inc ∨ mn = .dec then 7 else 6
    | _ => 6
  | _ =>
    let store : Nat := if mn ∈ [Mnemonic.sta, .stx, .sty, .stz] then 1 else 0
    match mode with
    | .zp => 3
    | .zpx | .zpy | .abs => 4
    | .absx | .absy => 4 + store
    | .zpindx => 6
    | .zpindy => 5 + store
    | .zpind => 5
    | _ => 2

/-- `LEN` of every opcode is one more than the operand bytes of its mode, but for `BRK`, of mode `IMP` and length 2, the
spec's decision D5 (log entry 3); the base cycles of every defined opcode are those of its mnemonic and mode, none above 8
(the values are the spec's decision D3, log entry 14). -/
def Obligations.LengthsAndBaseCycles : Prop :=
  ∀ op : Byte,
    (op = 0x00#8 → (descriptor op).mode = some .imp ∧ (descriptor op).length = 2) ∧
    (op ≠ 0x00#8 → ∀ m, (descriptor op).mode = some m → (descriptor op).length = 1 + m.operandBytes) ∧
    1 ≤ (descriptor op).length ∧ (descriptor op).length ≤ 3 ∧
    (∀ m, (descriptor op).mode = some m → (descriptor op).baseCycles = cyclesByMode (descriptor op).mnemonic m) ∧
    1 ≤ (descriptor op).baseCycles ∧ (descriptor op).baseCycles ≤ 8

/-- The 46 undefined opcodes: which they are, their declared lengths and costs, that running or stepping one is the fault
`UndefinedOpcode(PC0, op)`, and what the policy `skip` would do (rule R68; that the policy is `fault` is the spec's decision
D6, log entry 5). -/
def Obligations.UndefinedOpcodes : Prop :=
  (∀ op : Byte, (descriptor op).mnemonic = .undefined ↔ (op.toNat % 16 = 0x3 ∨ op.toNat % 16 = 0xB ∨
    op ∈ [0x02#8, 0x22#8, 0x42#8, 0x62#8, 0x82#8, 0xC2#8, 0xE2#8, 0x44#8, 0x54#8, 0xD4#8, 0xF4#8, 0x5C#8, 0xDC#8, 0xFC#8])) ∧
  (∀ op : Byte, op.toNat % 16 = 0x3 ∨ op.toNat % 16 = 0xB →
    (descriptor op).length = 1 ∧ (descriptor op).baseCycles = 1) ∧
  (∀ op ∈ [0x02#8, 0x22#8, 0x42#8, 0x62#8, 0x82#8, 0xC2#8, 0xE2#8],
    (descriptor op).length = 2 ∧ (descriptor op).baseCycles = 2) ∧
  (descriptor 0x44#8).length = 2 ∧ (descriptor 0x44#8).baseCycles = 3 ∧
  (∀ op ∈ [0x54#8, 0xD4#8, 0xF4#8], (descriptor op).length = 2 ∧ (descriptor op).baseCycles = 4) ∧
  (descriptor 0x5C#8).length = 3 ∧ (descriptor 0x5C#8).baseCycles = 8 ∧
  (∀ op ∈ [0xDC#8, 0xFC#8], (descriptor op).length = 3 ∧ (descriptor op).baseCycles = 4) ∧
  (∀ (i : Instr) (s : State), i.mnemonic = .undefined → exec i s = .fault (.undefinedOpcode s.pc i.opcode)) ∧
  (∀ s : State, (descriptor (s.peek s.pc)).mnemonic = .undefined →
    (fetch s.clearBus).2.bus = [.read s.pc (s.peek s.pc)] ∧
      step s = .fault (.undefinedOpcode s.pc (s.peek s.pc))) ∧
  (∀ (op : Byte) (s : State), undefinedUnder .skip op s = .next { s with
    pc := s.pc + BitVec.ofNat 16 (descriptor op).length
    cyc := s.cyc + BitVec.ofNat 64 (descriptor op).baseCycles })

/-- The fault is precise and not sticky: the driver is told the address and the opcode, the instance stays as it was, a
second `Step()` faults again, and the other transactions are accepted (rules R129, R260; the spec's decisions D6 and D22,
log entries 5 and 20). Among the events accepted is a change of a byte by the bus target between transactions (rule R268;
the event is the model's form of it, log entry 12). -/
def Obligations.UndefinedOpcodeFaultKeepsTheInstance : Prop :=
  ∀ (ratio : ClockRatio) (s : State), (descriptor (s.peek s.pc)).mnemonic = .undefined →
    let m : Instance := { clockRatio := ratio, phase := .running s }
    m.handle .step = .fault (.undefinedOpcode s.pc (s.peek s.pc)) ∧
    m.after .step = m ∧
    (m.after .step).handle .step = .fault (.undefinedOpcode s.pc (s.peek s.pc)) ∧
    (∀ e : Event, e ≠ .step → ∃ t, (m.after .step).handle e = .next { clockRatio := ratio, phase := .running t })

/-! ## The step -/

/-- A step runs the instruction that the bytes at `PC` decode to, after exactly the bus reads of its fetch (rules R47,
R60, R97, R120, R121). That the fetch reads every operand byte, an immediate's included, and `exec` reads none of them
again is the model's split of the step, log entries 6 and 23; rules R47 and R97 place an immediate's read in step 3, at
the same place in the order. -/
def Obligations.StepRunsDecodedInstruction : Prop :=
  ∀ (s : State) (i : Instr) (rest : List Byte),
    decodeBytes [s.peek s.pc, s.peek (s.pc + 1#16), s.peek (s.pc + 2#16)] = .ok (i, rest) →
    step s = exec i { s with bus := fetchReads s }

/-- A run of `k` steps either completes or stops with the fault of the first undefined opcode it meets; nothing else stops
it (rules R129, R260). -/
def Obligations.RunsStopOnlyAtUndefinedOpcodes : Prop :=
  ∀ (k : Nat) (s : State),
    (∃ t, core.run k s = .next t) ∨
    ∃ (j : Nat) (t : State), j < k ∧ core.run j s = .next t ∧ (descriptor (t.peek t.pc)).mnemonic = .undefined ∧
      core.run k s = .fault (.undefinedOpcode t.pc (t.peek t.pc))

/-- Every defined instruction completes in every state and adds its base cycles to `CYC`, whatever its operands;
`Interrupt`, `InterruptAt` and `Reset` add nothing (rule R124; that they add nothing is the spec's decision D9, log entry 16).
-/
def Obligations.EveryDefinedInstructionCompletes : Prop :=
  (∀ (i : Instr) (s : State), i.wellFormed = true →
    Completes i s fun t => t.cyc = s.cyc + BitVec.ofNat 64 i.baseCycles) ∧
  (∀ (isNmi : Bool) (s : State), (interrupt isNmi s).cyc = s.cyc) ∧
  (∀ (target : Address) (brk : Bool) (s : State), (interruptAt target brk s).cyc = s.cyc) ∧
  (∀ (cyc : CycleCount) (mem : Memory), (resetWith cyc mem).cyc = cyc)

/-- `(PC0 + len + sext_8(off)) mod 65536`, on integers (rules R95, R96). -/
def Sys2Proof.Machine.relativeTarget (len : Nat) (off : Byte) (s : State) : Address :=
  BitVec.ofInt 16 ((s.pc.toNat : Int) + len + off.toInt)

/-- The word `k` and `k + 1` bytes above the stack pointer: what `Pull16` gives after `k - 1` pulls (rules R126, R128). -/
def Sys2Proof.Machine.stackedWord (k : Nat) (s : State) : Address :=
  wordOf (s.peek (BitVec.ofNat 16 (0x0100 + (s.sp.toNat + k + 1) % 256)))
    (s.peek (BitVec.ofNat 16 (0x0100 + (s.sp.toNat + k) % 256)))

/-- The program counter after an instruction, case by case (rule R123). -/
def Sys2Proof.Machine.pcAfter (i : Instr) (s : State) : Address :=
  let following := BitVec.ofNat 16 (s.pc.toNat + i.length)
  let branch (cond : Bool) (target : Address) := if cond then target else following
  match i.mnemonic, i.operand with
  | .jmp, some (.mem m) => operandAddress m s
  | .jsr, some (.mem m) => operandAddress m s
  | .rts, _ => stackedWord 1 s + 1#16
  | .rti, _ => stackedWord 2 s
  | .brk, _ => s.peek16 0xFFFE#16
  | .bra, some (.rel off) => relativeTarget 2 off s
  | .bpl, some (.rel off) => branch (!s.flags.n) (relativeTarget 2 off s)
  | .bmi, some (.rel off) => branch s.flags.n (relativeTarget 2 off s)
  | .bvc, some (.rel off) => branch (!s.flags.v) (relativeTarget 2 off s)
  | .bvs, some (.rel off) => branch s.flags.v (relativeTarget 2 off s)
  | .bcc, some (.rel off) => branch (!s.flags.c) (relativeTarget 2 off s)
  | .bcs, some (.rel off) => branch s.flags.c (relativeTarget 2 off s)
  | .bne, some (.rel off) => branch (!s.flags.z) (relativeTarget 2 off s)
  | .beq, some (.rel off) => branch s.flags.z (relativeTarget 2 off s)
  | .bbr n, some (.zprel zz off) => branch (!(s.peek (zext16 zz)).getLsbD n.val) (relativeTarget 3 off s)
  | .bbs n, some (.zprel zz off) => branch ((s.peek (zext16 zz)).getLsbD n.val) (relativeTarget 3 off s)
  | _, _ => following

/-- The program counter at the end of every instruction that completes (rule R123; the conditions and targets of the
branches are those of rules R203 to R214, R95 and R96; that the vector lies at `0xFFFE` is the spec's decision D1, log
entry 1, and that `RTS` adds one its decision D7, log entry 9). -/
def Obligations.ProgramCounterAfterInstruction : Prop :=
  ∀ (i : Instr) (s t : State), exec i s = .next t → t.pc = pcAfter i s

/-! ## The resolver -/

/-- The byte at an address given as a number. -/
def Sys2Proof.Machine.byteAt (s : State) (n : Nat) : Nat := (s.peek (BitVec.ofNat 16 n)).toNat

/-- `EA` of a mode from the bytes of memory at `PC0 + 1`, `PC0 + 2`, on numbers (rules R83 to R94, R41, R42). -/
def Sys2Proof.Machine.resolvedAddress (mode : Mode) (s : State) : Nat :=
  let p1 := (s.pc.toNat + 1) % 65536
  let p2 := (s.pc.toNat + 2) % 65536
  let zz := byteAt s p1
  let word := byteAt s p1 + 256 * byteAt s p2
  let read16 (p : Nat) := byteAt s p + 256 * byteAt s ((p + 1) % 65536)
  let read16ZP (p : Nat) := byteAt s p + 256 * byteAt s ((p + 1) % 256)
  match mode with
  | .imm => p1
  | .zp => zz
  | .zpx => (zz + s.x.toNat) % 256
  | .zpy => (zz + s.y.toNat) % 256
  | .abs => word
  | .absx => (word + s.x.toNat) % 65536
  | .absy => (word + s.y.toNat) % 65536
  | .ind => read16 word
  | .absindx => read16 ((word + s.x.toNat) % 65536)
  | .zpind => read16ZP zz
  | .zpindx => read16ZP ((zz + s.x.toNat) % 256)
  | .zpindy => (read16ZP zz + s.y.toNat) % 65536
  | _ => 0

/-- The instruction fetched at `PC` has the effective address of its mode, computed from the bytes that follow its opcode,
and its operand byte is the byte there, an immediate's too (rules R83 to R94). -/
def Obligations.ResolverGivesModeAddress : Prop :=
  ∀ (s : State) (m : MemOperand), (fetch s).1.operand = some (.mem m) →
    (descriptor (s.peek s.pc)).mode = some m.mode ∧
    (operandAddress m (fetch s).2).toNat = resolvedAddress m.mode s ∧
    operandByte m (fetch s).2 = s.peek (operandAddress m (fetch s).2)

/-- The fetched branch instructions have the target of their offset byte, relative to the next instruction, and `BBRn`,
`BBSn` the zero-page address of their first operand byte (rules R95, R96). -/
def Obligations.ResolverGivesBranchTarget : Prop :=
  (∀ (s : State) (off : Byte), (fetch s).1.operand = some (.rel off) →
    off = s.peek (s.pc + 1#16) ∧
    ((branchTarget 2 off (fetch s).2).toNat : Int) = ((s.pc.toNat : Int) + 2 + (s.peek (s.pc + 1#16)).toInt) % 65536) ∧
  (∀ (s : State) (zz off : Byte), (fetch s).1.operand = some (.zprel zz off) →
    zz = s.peek (s.pc + 1#16) ∧ off = s.peek (s.pc + 2#16) ∧
    (operandAddress (.zp zz) (fetch s).2).toNat = byteAt s ((s.pc.toNat + 1) % 65536) ∧
    ((branchTarget 3 off (fetch s).2).toNat : Int) = ((s.pc.toNat : Int) + 3 + (s.peek (s.pc + 2#16)).toInt) % 65536)

/-- The addresses read by the fetch and the resolver in a mode, in order, on numbers (rule R97; an immediate's one read is
made at the same place in the order, log entry 6). -/
def Sys2Proof.Machine.resolverReads (mode : Mode) (s : State) : List Nat :=
  let p0 := s.pc.toNat
  let p1 := (s.pc.toNat + 1) % 65536
  let p2 := (s.pc.toNat + 2) % 65536
  let zz := byteAt s p1
  let word := byteAt s p1 + 256 * byteAt s p2
  match mode with
  | .imp | .acc => [p0]
  | .imm | .zp | .zpx | .zpy | .rel => [p0, p1]
  | .abs | .absx | .absy | .zprel => [p0, p1, p2]
  | .zpind | .zpindy => [p0, p1, zz, (zz + 1) % 256]
  | .zpindx => [p0, p1, (zz + s.x.toNat) % 256, ((zz + s.x.toNat) % 256 + 1) % 256]
  | .ind => [p0, p1, p2, word, (word + 1) % 65536]
  | .absindx => [p0, p1, p2, (word + s.x.toNat) % 65536, ((word + s.x.toNat) % 65536 + 1) % 65536]

/-- The fetch and the resolver read exactly the addresses of rule R97, in order, and change nothing but the record of the
bus (rules R80, R97). -/
def Obligations.ResolverReadsInOrder : Prop :=
  ∀ (s : State) (mode : Mode), (descriptor (s.peek s.pc)).mode = some mode →
    let resolved := match (fetch s.clearBus).1.operand with
      | some (.mem m) => (effectiveAddress m (fetch s.clearBus).2).2
      | _ => (fetch s.clearBus).2
    let read (n : Nat) : BusAccess := .read (BitVec.ofNat 16 n) (s.peek (BitVec.ofNat 16 n))
    resolved = { s with bus := (resolverReads mode s).map read }

/-! ## The arithmetic and flag unit -/

/-- `AddWithCarry` on all bytes, in both modes, on numbers (rule R100; on operands that are not valid BCD the decimal sum is
the spec's decision D11, log entry 7). -/
def Obligations.AddWithCarryFollowsItsSum : Prop :=
  ∀ (a m : Byte) (cin dec : Bool),
    let sum := specSum dec a.toNat m.toNat cin.toNat
    (addWithCarry a m cin dec).result.toNat = sum % 256 ∧
    (addWithCarry a m cin dec).carry = decide (255 < sum) ∧
    (addWithCarry a m cin dec).overflow = signsOverflow a m (BitVec.ofNat 8 sum)

/-- The overflow bit is the sign test in both modes, and in binary mode it says that the signed sum leaves the byte range
(rule R101). -/
def Obligations.OverflowIsTheSignTest : Prop :=
  ∀ (a m : Byte) (cin dec : Bool),
    ((addWithCarry a m cin dec).overflow = true ↔
      a.msb = m.msb ∧ a.msb ≠ (addWithCarry a m cin dec).result.msb) ∧
    ((addWithCarry a m cin false).overflow = true ↔
      a.toInt + m.toInt + cin.toNat < -128 ∨ 127 < a.toInt + m.toInt + cin.toNat)

/-- On valid BCD operands decimal add and subtract are decimal arithmetic (rule R103). -/
def Obligations.DecimalModeIsDecimalArithmetic : Prop :=
  ∀ (a m : Byte) (cin : Bool), validBcd a = true → validBcd m = true →
    let sum := bcdValue a + bcdValue m + cin.toNat
    let diff : Int := (bcdValue a : Int) - bcdValue m - (1 - cin.toNat)
    validBcd (addWithCarry a m cin true).result = true ∧
    bcdValue (addWithCarry a m cin true).result = sum % 100 ∧
    ((addWithCarry a m cin true).carry = true ↔ 100 ≤ sum) ∧
    validBcd (subWithCarry a m cin true).result = true ∧
    (bcdValue (subWithCarry a m cin true).result : Int) = diff % 100 ∧
    ((subWithCarry a m cin true).carry = true ↔ 0 ≤ diff)

/-- Subtraction is the addition of the transformed operand, and in binary mode its result is the difference and its carry
says that no borrow was needed (rules R102, R161; the reduction of `0x99 - m` above `0x99` is the spec's decision D11, log
entry 7). -/
def Obligations.SubtractIsTransformedAdd : Prop :=
  ∀ (a m : Byte) (cin dec : Bool),
    subWithCarry a m cin dec = addWithCarry a (BitVec.ofNat 8 (specSubtrahend dec m.toNat)) cin dec ∧
    ((subWithCarry a m cin false).result.toNat : Int) = ((a.toNat : Int) - m.toNat - (1 - cin.toNat)) % 256 ∧
    ((subWithCarry a m cin false).carry = true ↔ m.toNat + (1 - cin.toNat) ≤ a.toNat)

/-- `Compare` on numbers: the wrapped difference, the unsigned comparison, and what the generic rule makes of them
(rule R105). -/
def Obligations.CompareIsUnsigned : Prop :=
  ∀ reg m : Byte,
    ((compareResult reg m).toNat : Int) = ((reg.toNat : Int) - m.toNat) % 256 ∧
    (compareCarry reg m = true ↔ m.toNat ≤ reg.toNat) ∧
    (compareResult reg m = 0#8 ↔ reg = m)

/-- `Pack` and `Unpack` bit by bit, and their round trips (rules R107, R108, R109). -/
def Obligations.PackAndUnpackRoundTrip : Prop :=
  (∀ (f : Flags) (brk : Bool), (pack brk f).toNat =
    128 * f.n.toNat + 64 * f.v.toNat + 32 + 16 * brk.toNat + 8 * f.d.toNat + 4 * f.i.toNat + 2 * f.z.toNat + f.c.toNat) ∧
  (∀ b : Byte, unpack b =
    { n := b.toNat.testBit 7, v := b.toNat.testBit 6, d := b.toNat.testBit 3, i := b.toNat.testBit 2,
      z := b.toNat.testBit 1, c := b.toNat.testBit 0 }) ∧
  (∀ (f : Flags) (brk : Bool), unpack (pack brk f) = f) ∧
  (∀ (b : Byte) (k : Bool), pack k (unpack b) = (b &&& 0xCF#8) ||| 0x20#8 ||| (if k then 0x10#8 else 0x00#8))

/-- The generic flag rule (rule R110). -/
def Obligations.GenericFlagRule : Prop :=
  ∀ (r : Byte) (f : Flags),
    setNZ .nz r f = { f with z := decide (r.toNat = 0), n := r.toNat.testBit 7 } ∧
    setNZ .n r f = { f with n := r.toNat.testBit 7 } ∧
    setNZ .none r f = f

/-- Result and carry-out of a shift or rotate, on numbers (rule R111). -/
def Sys2Proof.Machine.shiftNumbers (mn : Mnemonic) (v cin : Nat) : Nat × Bool :=
  match mn with
  | .asl => (2 * v % 256, decide (128 ≤ v))
  | .lsr => (v / 2, decide (v % 2 = 1))
  | .rol => (2 * v % 256 + cin, decide (128 ≤ v))
  | .ror => (v / 2 + 128 * cin, decide (v % 2 = 1))
  | _ => (v, false)

/-- The shift, rotate, increment and decrement functions on numbers (rules R111, R113). -/
def Obligations.ShiftsAndStepsOnNumbers : Prop :=
  ∀ (v : Byte) (cin : Bool),
    ((asl v).result.toNat, (asl v).carry) = shiftNumbers .asl v.toNat cin.toNat ∧
    ((lsr v).result.toNat, (lsr v).carry) = shiftNumbers .lsr v.toNat cin.toNat ∧
    ((rol v cin).result.toNat, (rol v cin).carry) = shiftNumbers .rol v.toNat cin.toNat ∧
    ((ror v cin).result.toNat, (ror v cin).carry) = shiftNumbers .ror v.toNat cin.toNat ∧
    (incByte v).toNat = (v.toNat + 1) % 256 ∧
    (decByte v).toNat = (v.toNat + 255) % 256

/-! ## Loads, stores and transfers -/

/-- One load mnemonic: its rows, the register it writes, its flags, and its frame. -/
def Sys2Proof.Machine.LoadRule (mn : Mnemonic) (rows : List (Byte × Mode)) (writes : State → State → Byte → Prop) : Prop :=
  ∀ (i : Instr) (s : State), i.mnemonic = mn → InRows i rows ∧ ∃ m, i.operand = some (.mem m) ∧
    Completes i s fun t =>
      writes s t (operandByte m s) ∧ t.flags = resultFlags (operandByte m s) s.flags ∧
      t.sp = s.sp ∧ t.depth = s.depth ∧ SameBytes s t ∧ Continues i s t ∧ t.bus = s.bus ++ operandReads m s

/-- `LDA`, `LDX`, `LDY` in every form (rules R140 to R142; that an immediate form makes no read of its own in `exec` is
the model's placing of that one read in the fetch, log entry 6). -/
def Obligations.LoadsWriteRegisterAndFlags : Prop :=
  LoadRule .lda [(0xA9#8, .imm), (0xA5#8, .zp), (0xB5#8, .zpx), (0xAD#8, .abs), (0xBD#8, .absx), (0xB9#8, .absy),
    (0xA1#8, .zpindx), (0xB1#8, .zpindy), (0xB2#8, .zpind)] (fun s t v => t.a = v ∧ t.x = s.x ∧ t.y = s.y) ∧
  LoadRule .ldx [(0xA2#8, .imm), (0xA6#8, .zp), (0xB6#8, .zpy), (0xAE#8, .abs), (0xBE#8, .absy)]
    (fun s t v => t.x = v ∧ t.a = s.a ∧ t.y = s.y) ∧
  LoadRule .ldy [(0xA0#8, .imm), (0xA4#8, .zp), (0xB4#8, .zpx), (0xAC#8, .abs), (0xBC#8, .absx)]
    (fun s t v => t.y = v ∧ t.a = s.a ∧ t.x = s.x)

/-- One store mnemonic: its rows, the byte it stores at `EA`, and its frame. -/
def Sys2Proof.Machine.StoreRule (mn : Mnemonic) (rows : List (Byte × Mode)) (value : State → Byte) : Prop :=
  ∀ (i : Instr) (s : State), i.mnemonic = mn → InRows i rows ∧ ∃ m, i.operand = some (.mem m) ∧
    Completes i s fun t =>
      (∀ ea, operandAddress m s = ea → StoresByte ea (value s) s t ∧
        t.bus = s.bus ++ pointerReads m s ++ [.write ea (value s)]) ∧
      t.a = s.a ∧ t.x = s.x ∧ t.y = s.y ∧ t.sp = s.sp ∧ t.flags = s.flags ∧ t.depth = s.depth ∧ Continues i s t

/-- `STA`, `STX`, `STY`, `STZ` in every form (rules R143 to R146). -/
def Obligations.StoresWriteOneByte : Prop :=
  StoreRule .sta [(0x85#8, .zp), (0x95#8, .zpx), (0x8D#8, .abs), (0x9D#8, .absx), (0x99#8, .absy), (0x81#8, .zpindx),
    (0x91#8, .zpindy), (0x92#8, .zpind)] (fun s => s.a) ∧
  StoreRule .stx [(0x86#8, .zp), (0x96#8, .zpy), (0x8E#8, .abs)] (fun s => s.x) ∧
  StoreRule .sty [(0x84#8, .zp), (0x94#8, .zpx), (0x8C#8, .abs)] (fun s => s.y) ∧
  StoreRule .stz [(0x64#8, .zp), (0x74#8, .zpx), (0x9C#8, .abs), (0x9E#8, .absx)] (fun _ => 0x00#8)

/-- A one-byte register instruction: no bus access, no memory, no flag but those of `flags`. -/
def Sys2Proof.Machine.RegisterRule (i : Instr) (op : Byte) (writes : State → State → Prop) (flags : State → Flags) : Prop :=
  i.opcode = op ∧ ∀ s : State, Completes i s fun t =>
    writes s t ∧ t.flags = flags s ∧ t.depth = s.depth ∧ SameBytes s t ∧ Continues i s t ∧ t.bus = s.bus

/-- The six register transfers (rules R147 to R152). -/
def Obligations.TransfersCopyOneRegister : Prop :=
  RegisterRule .tax 0xAA#8 (fun s t => t.x = s.a ∧ t.a = s.a ∧ t.y = s.y ∧ t.sp = s.sp) (fun s => resultFlags s.a s.flags) ∧
  RegisterRule .tay 0xA8#8 (fun s t => t.y = s.a ∧ t.a = s.a ∧ t.x = s.x ∧ t.sp = s.sp) (fun s => resultFlags s.a s.flags) ∧
  RegisterRule .txa 0x8A#8 (fun s t => t.a = s.x ∧ t.x = s.x ∧ t.y = s.y ∧ t.sp = s.sp) (fun s => resultFlags s.x s.flags) ∧
  RegisterRule .tya 0x98#8 (fun s t => t.a = s.y ∧ t.x = s.x ∧ t.y = s.y ∧ t.sp = s.sp) (fun s => resultFlags s.y s.flags) ∧
  RegisterRule .tsx 0xBA#8 (fun s t => t.x = s.sp ∧ t.a = s.a ∧ t.y = s.y ∧ t.sp = s.sp)
    (fun s => resultFlags s.sp s.flags) ∧
  RegisterRule .txs 0x9A#8 (fun s t => t.sp = s.x ∧ t.a = s.a ∧ t.x = s.x ∧ t.y = s.y) (fun s => s.flags)

/-! ## Arithmetic, logic, compare, test and increment -/

/-- An instruction that reads its operand byte and stores nothing: the accumulator and the flags it leaves, and its frame. -/
def Sys2Proof.Machine.ReadRule (mn : Mnemonic) (rows : List (Byte × Mode)) (newA : State → Byte → Byte)
    (flags : State → Byte → Flags) : Prop :=
  ∀ (i : Instr) (s : State), i.mnemonic = mn → InRows i rows ∧ ∃ m, i.operand = some (.mem m) ∧
    Completes i s fun t =>
      t.a = newA s (operandByte m s) ∧ t.flags = flags s (operandByte m s) ∧
      t.x = s.x ∧ t.y = s.y ∧ t.sp = s.sp ∧ t.depth = s.depth ∧ SameBytes s t ∧ Continues i s t ∧
      t.bus = s.bus ++ operandReads m s

/-- The sum `ADC` makes, on numbers (rules R100, R160). -/
def Sys2Proof.Machine.adcSum (s : State) (m : Byte) : Nat := specSum s.flags.d s.a.toNat m.toNat s.flags.c.toNat

/-- The sum `SBC` makes, on numbers (rules R102, R161). -/
def Sys2Proof.Machine.sbcSum (s : State) (m : Byte) : Nat :=
  specSum s.flags.d s.a.toNat (specSubtrahend s.flags.d m.toNat) s.flags.c.toNat

/-- `ADC` and `SBC` in every form, in binary and in decimal mode (rules R160, R161; on operands that are not valid BCD the
decimal sum is the spec's decision D11, log entry 7; that an immediate form makes no read of its own in `exec` is the
model's placing of that one read in the fetch, log entry 6). -/
def Obligations.AddAndSubtractInstructions : Prop :=
  ReadRule .adc [(0x69#8, .imm), (0x65#8, .zp), (0x75#8, .zpx), (0x6D#8, .abs), (0x7D#8, .absx), (0x79#8, .absy),
    (0x61#8, .zpindx), (0x71#8, .zpindy), (0x72#8, .zpind)]
    (fun s m => BitVec.ofNat 8 (adcSum s m))
    (fun s m => resultFlags (BitVec.ofNat 8 (adcSum s m)) { s.flags with
      c := decide (255 < adcSum s m)
      v := signsOverflow s.a m (BitVec.ofNat 8 (adcSum s m)) }) ∧
  ReadRule .sbc [(0xE9#8, .imm), (0xE5#8, .zp), (0xF5#8, .zpx), (0xED#8, .abs), (0xFD#8, .absx), (0xF9#8, .absy),
    (0xE1#8, .zpindx), (0xF1#8, .zpindy), (0xF2#8, .zpind)]
    (fun s m => BitVec.ofNat 8 (sbcSum s m))
    (fun s m => resultFlags (BitVec.ofNat 8 (sbcSum s m)) { s.flags with
      c := decide (255 < sbcSum s m)
      v := signsOverflow s.a (BitVec.ofNat 8 (specSubtrahend s.flags.d m.toNat)) (BitVec.ofNat 8 (sbcSum s m)) })

/-- `AND`, `ORA`, `EOR` in every form (rules R162 to R164; that an immediate form makes no read of its own in `exec` is
the model's placing of that one read in the fetch, log entry 6). -/
def Obligations.LogicInstructions : Prop :=
  ReadRule .and [(0x29#8, .imm), (0x25#8, .zp), (0x35#8, .zpx), (0x2D#8, .abs), (0x3D#8, .absx), (0x39#8, .absy),
    (0x21#8, .zpindx), (0x31#8, .zpindy), (0x32#8, .zpind)]
    (fun s m => s.a &&& m) (fun s m => resultFlags (s.a &&& m) s.flags) ∧
  ReadRule .ora [(0x09#8, .imm), (0x05#8, .zp), (0x15#8, .zpx), (0x0D#8, .abs), (0x1D#8, .absx), (0x19#8, .absy),
    (0x01#8, .zpindx), (0x11#8, .zpindy), (0x12#8, .zpind)]
    (fun s m => s.a ||| m) (fun s m => resultFlags (s.a ||| m) s.flags) ∧
  ReadRule .eor [(0x49#8, .imm), (0x45#8, .zp), (0x55#8, .zpx), (0x4D#8, .abs), (0x5D#8, .absx), (0x59#8, .absy),
    (0x41#8, .zpindx), (0x51#8, .zpindy), (0x52#8, .zpind)]
    (fun s m => s.a ^^^ m) (fun s m => resultFlags (s.a ^^^ m) s.flags)

/-- The flags after a compare of `reg` with `m`, on numbers (rule R105). -/
def Sys2Proof.Machine.compareFlags (reg m : Byte) (f : Flags) : Flags :=
  resultFlags (BitVec.ofNat 8 (256 + reg.toNat - m.toNat)) { f with c := decide (m.toNat ≤ reg.toNat) }

/-- `CMP`, `CPX`, `CPY` in every form (rules R165 to R167; that an immediate form makes no read of its own in `exec` is
the model's placing of that one read in the fetch, log entry 6). -/
def Obligations.CompareInstructions : Prop :=
  ReadRule .cmp [(0xC9#8, .imm), (0xC5#8, .zp), (0xD5#8, .zpx), (0xCD#8, .abs), (0xDD#8, .absx), (0xD9#8, .absy),
    (0xC1#8, .zpindx), (0xD1#8, .zpindy), (0xD2#8, .zpind)]
    (fun s _ => s.a) (fun s m => compareFlags s.a m s.flags) ∧
  ReadRule .cpx [(0xE0#8, .imm), (0xE4#8, .zp), (0xEC#8, .abs)] (fun s _ => s.a) (fun s m => compareFlags s.x m s.flags) ∧
  ReadRule .cpy [(0xC0#8, .imm), (0xC4#8, .zp), (0xCC#8, .abs)] (fun s _ => s.a) (fun s m => compareFlags s.y m s.flags)

/-- `BIT` in every form: in the four memory modes `Z`, `V`, `N`, in immediate mode `Z` alone (rule R168; that the
immediate form spares `N` and `V` is the spec's decision D16, log entry 8; that an immediate form makes no read of its own
in `exec` is the model's placing of that one read in the fetch, log entry 6). -/
def Obligations.BitInstruction : Prop :=
  ∀ (i : Instr) (s : State), i.mnemonic = .bit →
    InRows i [(0x24#8, .zp), (0x34#8, .zpx), (0x2C#8, .abs), (0x3C#8, .absx), (0x89#8, .imm)] ∧
    ∃ m, i.operand = some (.mem m) ∧ Completes i s fun t =>
      t.flags = (if i.opcode = 0x89#8 then { s.flags with z := decide (s.a &&& operandByte m s = 0#8) }
        else { s.flags with
          z := decide (s.a &&& operandByte m s = 0#8)
          v := (operandByte m s).toNat.testBit 6
          n := (operandByte m s).toNat.testBit 7 }) ∧
      t.a = s.a ∧ t.x = s.x ∧ t.y = s.y ∧ t.sp = s.sp ∧ t.depth = s.depth ∧ SameBytes s t ∧ Continues i s t ∧
      t.bus = s.bus ++ operandReads m s

/-- A read-modify-write of the byte at `EA`: one read, one write, in that order, at the same address. -/
def Sys2Proof.Machine.ModifiesByte (i : Instr) (m : MemOperand) (s : State) (value : Byte → Byte) (flags : Byte → Flags) :
    Prop :=
  Completes i s fun t =>
    (∀ ea, operandAddress m s = ea → StoresByte ea (value (s.peek ea)) s t ∧ t.flags = flags (s.peek ea) ∧
      t.bus = s.bus ++ pointerReads m s ++ [.read ea (s.peek ea), .write ea (value (s.peek ea))]) ∧
    t.a = s.a ∧ t.x = s.x ∧ t.y = s.y ∧ t.sp = s.sp ∧ t.depth = s.depth ∧ Continues i s t

/-- `TSB` and `TRB`: `Z` from the byte before the write (rules R169, R170). -/
def Obligations.TestAndSetTestAndReset : Prop :=
  (∀ (i : Instr) (s : State), i.mnemonic = .tsb → InRows i [(0x04#8, .zp), (0x0C#8, .abs)] ∧
    ∃ m, i.operand = some (.mem m) ∧
      ModifiesByte i m s (fun v => v ||| s.a) (fun v => { s.flags with z := decide (s.a &&& v = 0#8) })) ∧
  (∀ (i : Instr) (s : State), i.mnemonic = .trb → InRows i [(0x14#8, .zp), (0x1C#8, .abs)] ∧
    ∃ m, i.operand = some (.mem m) ∧
      ModifiesByte i m s (fun v => v &&& (s.a ^^^ 0xFF#8)) (fun v => { s.flags with z := decide (s.a &&& v = 0#8) }))

/-- An instruction with an accumulator form and memory forms: `v` becomes `value v` and the flags `flags v`. -/
def Sys2Proof.Machine.ModifyRule (mn : Mnemonic) (accOp : Byte) (rows : List (Byte × Mode)) (value : State → Byte → Byte)
    (flags : State → Byte → Flags) : Prop :=
  ∀ (i : Instr) (s : State), i.mnemonic = mn →
    (i.operand = some .acc ∧ i.opcode = accOp ∧ Completes i s fun t =>
      t.a = value s s.a ∧ t.flags = flags s s.a ∧ t.x = s.x ∧ t.y = s.y ∧ t.sp = s.sp ∧ t.depth = s.depth ∧
      SameBytes s t ∧ Continues i s t ∧ t.bus = s.bus) ∨
    (InRows i rows ∧ ∃ m, i.operand = some (.mem m) ∧ ModifiesByte i m s (value s) (flags s))

/-- `INC` and `DEC` on the accumulator and on memory (rules R171, R172). -/
def Obligations.IncrementAndDecrement : Prop :=
  ModifyRule .inc 0x1A#8 [(0xE6#8, .zp), (0xF6#8, .zpx), (0xEE#8, .abs), (0xFE#8, .absx)]
    (fun _ v => BitVec.ofNat 8 (v.toNat + 1)) (fun s v => resultFlags (BitVec.ofNat 8 (v.toNat + 1)) s.flags) ∧
  ModifyRule .dec 0x3A#8 [(0xC6#8, .zp), (0xD6#8, .zpx), (0xCE#8, .abs), (0xDE#8, .absx)]
    (fun _ v => BitVec.ofNat 8 (v.toNat + 255)) (fun s v => resultFlags (BitVec.ofNat 8 (v.toNat + 255)) s.flags)

/-- `INX`, `INY`, `DEX`, `DEY` (rules R173 to R176). -/
def Obligations.IndexRegisterSteps : Prop :=
  RegisterRule .inx 0xE8#8
    (fun s t => t.x = BitVec.ofNat 8 (s.x.toNat + 1) ∧ t.a = s.a ∧ t.y = s.y ∧ t.sp = s.sp)
    (fun s => resultFlags (BitVec.ofNat 8 (s.x.toNat + 1)) s.flags) ∧
  RegisterRule .iny 0xC8#8
    (fun s t => t.y = BitVec.ofNat 8 (s.y.toNat + 1) ∧ t.a = s.a ∧ t.x = s.x ∧ t.sp = s.sp)
    (fun s => resultFlags (BitVec.ofNat 8 (s.y.toNat + 1)) s.flags) ∧
  RegisterRule .dex 0xCA#8
    (fun s t => t.x = BitVec.ofNat 8 (s.x.toNat + 255) ∧ t.a = s.a ∧ t.y = s.y ∧ t.sp = s.sp)
    (fun s => resultFlags (BitVec.ofNat 8 (s.x.toNat + 255)) s.flags) ∧
  RegisterRule .dey 0x88#8
    (fun s t => t.y = BitVec.ofNat 8 (s.y.toNat + 255) ∧ t.a = s.a ∧ t.x = s.x ∧ t.sp = s.sp)
    (fun s => resultFlags (BitVec.ofNat 8 (s.y.toNat + 255)) s.flags)

/-! ## Shifts and single memory bits -/

/-- One shift or rotate mnemonic, on the accumulator and on memory. -/
def Sys2Proof.Machine.ShiftRule (mn : Mnemonic) (accOp : Byte) (rows : List (Byte × Mode)) : Prop :=
  ModifyRule mn accOp rows
    (fun s v => BitVec.ofNat 8 (shiftNumbers mn v.toNat s.flags.c.toNat).1)
    (fun s v => resultFlags (BitVec.ofNat 8 (shiftNumbers mn v.toNat s.flags.c.toNat).1)
      { s.flags with c := (shiftNumbers mn v.toNat s.flags.c.toNat).2 })

/-- `ASL`, `LSR`, `ROL`, `ROR` on the accumulator and on memory (rules R190 to R193). -/
def Obligations.ShiftsAndRotates : Prop :=
  ShiftRule .asl 0x0A#8 [(0x06#8, .zp), (0x16#8, .zpx), (0x0E#8, .abs), (0x1E#8, .absx)] ∧
  ShiftRule .lsr 0x4A#8 [(0x46#8, .zp), (0x56#8, .zpx), (0x4E#8, .abs), (0x5E#8, .absx)] ∧
  ShiftRule .rol 0x2A#8 [(0x26#8, .zp), (0x36#8, .zpx), (0x2E#8, .abs), (0x3E#8, .absx)] ∧
  ShiftRule .ror 0x6A#8 [(0x66#8, .zp), (0x76#8, .zpx), (0x6E#8, .abs), (0x7E#8, .absx)]

/-- `RMBn` and `SMBn`: bit `n` of the zero-page byte becomes 0 or 1, its other bits and every flag stay (rules R194,
R195). -/
def Obligations.MemoryBitInstructions : Prop :=
  ∀ (n : Fin 8) (i : Instr) (s : State),
    (i.mnemonic = .rmb n → InRows i [(BitVec.ofNat 8 (0x07 + 16 * n.val), .zp)] ∧
      ∃ zz value, i.operand = some (.mem (.zp zz)) ∧ (operandAddress (.zp zz) s).toNat = zz.toNat ∧
        (∀ k < 8, (value (s.peek (operandAddress (.zp zz) s))).getLsbD k =
          ((s.peek (operandAddress (.zp zz) s)).getLsbD k && decide (k ≠ n.val))) ∧
        ModifiesByte i (.zp zz) s value (fun _ => s.flags)) ∧
    (i.mnemonic = .smb n → InRows i [(BitVec.ofNat 8 (0x87 + 16 * n.val), .zp)] ∧
      ∃ zz value, i.operand = some (.mem (.zp zz)) ∧ (operandAddress (.zp zz) s).toNat = zz.toNat ∧
        (∀ k < 8, (value (s.peek (operandAddress (.zp zz) s))).getLsbD k =
          ((s.peek (operandAddress (.zp zz) s)).getLsbD k || decide (k = n.val))) ∧
        ModifiesByte i (.zp zz) s value (fun _ => s.flags))

/-! ## Control transfer -/

/-- No register but `PC` and `CYC`, no flag and no byte of memory changes. -/
def Sys2Proof.Machine.OnlyControlMoves (s t : State) : Prop :=
  t.a = s.a ∧ t.x = s.x ∧ t.y = s.y ∧ t.sp = s.sp ∧ t.flags = s.flags ∧ t.depth = s.depth ∧ SameBytes s t

/-- `JMP` in its three modes goes to `EA` (rule R200). -/
def Obligations.JumpGoesToOperandAddress : Prop :=
  ∀ (i : Instr) (s : State), i.mnemonic = .jmp → InRows i [(0x4C#8, .abs), (0x6C#8, .ind), (0x7C#8, .absindx)] ∧
    ∃ m, i.operand = some (.mem m) ∧ Completes i s fun t =>
      GoesTo (operandAddress m s) i s t ∧ OnlyControlMoves s t ∧ t.bus = s.bus ++ pointerReads m s

/-- The stack page byte `k` below the stack pointer (rules R24, R125). -/
def Sys2Proof.Machine.stackSlot (k : Nat) (s : State) : Address := BitVec.ofNat 16 (0x0100 + (s.sp.toNat + 256 - k) % 256)

/-- `JSR` pushes the address of its last byte, high byte first, counts the call and goes to its operand (rule R201, with
the spec's decision D7, log entry 9). -/
def Obligations.JsrPushesReturnAddress : Prop :=
  ∀ (addr : Address) (s : State), (Instr.jsrAbs addr).opcode = 0x20#8 ∧ Completes (.jsrAbs addr) s fun t =>
    let pushed := BitVec.ofNat 16 (s.pc.toNat + 2)
    t.peek (stackSlot 0 s) = hiByte pushed ∧ t.peek (stackSlot 1 s) = loByte pushed ∧
    (∀ b, b ≠ stackSlot 0 s → b ≠ stackSlot 1 s → t.peek b = s.peek b) ∧
    t.sp = BitVec.ofNat 8 (s.sp.toNat + 254) ∧ t.depth = s.depth + 1 ∧ GoesTo addr (.jsrAbs addr) s t ∧
    t.a = s.a ∧ t.x = s.x ∧ t.y = s.y ∧ t.flags = s.flags ∧
    t.bus = s.bus ++ [.write (stackSlot 0 s) (hiByte pushed), .write (stackSlot 1 s) (loByte pushed)]

/-- The reads of `k` pulls, from the byte above the stack pointer on (rule R126). -/
def Sys2Proof.Machine.pullReads (k : Nat) (s : State) : List BusAccess :=
  (List.range k).map fun j =>
    .read (BitVec.ofNat 16 (0x0100 + (s.sp.toNat + j + 1) % 256))
      (s.peek (BitVec.ofNat 16 (0x0100 + (s.sp.toNat + j + 1) % 256)))

/-- `RTS` pulls a word, low byte first, uncounts the call and goes to the word plus one (rule R202, with the spec's decision
D7, log entry 9). -/
def Obligations.RtsReturnsPastPulledWord : Prop :=
  Instr.rts.opcode = 0x60#8 ∧ ∀ s : State, Completes .rts s fun t =>
    GoesTo (BitVec.ofNat 16 ((stackedWord 1 s).toNat + 1)) .rts s t ∧
    t.sp = BitVec.ofNat 8 (s.sp.toNat + 2) ∧ t.depth = s.depth - 1 ∧ SameBytes s t ∧
    t.a = s.a ∧ t.x = s.x ∧ t.y = s.y ∧ t.flags = s.flags ∧ t.bus = s.bus ++ pullReads 2 s

/-- A call followed by its return comes back behind the `JSR` with the stack pointer, the call depth, the registers and the
flags as they were, from every state (the testable property E6; rules R201, R202). -/
def Obligations.JsrThenRtsReturns : Prop :=
  ∀ (addr : Address) (s t : State), exec (.jsrAbs addr) s = .next t →
    ∃ u, exec .rts t = .next u ∧ u.pc = s.pc + 3#16 ∧ u.sp = s.sp ∧ u.depth = s.depth ∧ u.flags = s.flags ∧
      u.a = s.a ∧ u.x = s.x ∧ u.y = s.y ∧ u.cyc = s.cyc + 12#64

/-- One branch on a flag: taken to its target when `cond` holds, else on to the next instruction, for the same cycles
(rule R203). -/
def Sys2Proof.Machine.BranchRule (make : Byte → Instr) (op : Byte) (cycles : Nat) (cond : Flags → Bool) : Prop :=
  ∀ (off : Byte) (s : State), (make off).opcode = op ∧ (make off).baseCycles = cycles ∧
    (make off).operand = some (.rel off) ∧
    Completes (make off) s fun t =>
      (if cond s.flags then GoesTo (relativeTarget 2 off s) (make off) s t else Continues (make off) s t) ∧
      OnlyControlMoves s t ∧ t.bus = s.bus

/-- The nine relative branches (rules R203 to R212; that `CYC` grows alike taken or not is the spec's decision D21, log
entry 16; the counts are its decision D3, log entry 14). -/
def Obligations.RelativeBranches : Prop :=
  BranchRule .bpl 0x10#8 2 (fun f => !f.n) ∧ BranchRule .bmi 0x30#8 2 (fun f => f.n) ∧
  BranchRule .bvc 0x50#8 2 (fun f => !f.v) ∧ BranchRule .bvs 0x70#8 2 (fun f => f.v) ∧
  BranchRule .bcc 0x90#8 2 (fun f => !f.c) ∧ BranchRule .bcs 0xB0#8 2 (fun f => f.c) ∧
  BranchRule .bne 0xD0#8 2 (fun f => !f.z) ∧ BranchRule .beq 0xF0#8 2 (fun f => f.z) ∧
  BranchRule .bra 0x80#8 3 (fun _ => true)

/-- `BBRn` and `BBSn`: taken when bit `n` of the zero-page byte is 0, or 1 (rules R213, R214). -/
def Obligations.BitBranches : Prop :=
  ∀ (n : Fin 8) (i : Instr) (s : State),
    (i.mnemonic = .bbr n → InRows i [(BitVec.ofNat 8 (0x0F + 16 * n.val), .zprel)] ∧
      ∃ zz off, i.operand = some (.zprel zz off) ∧ Completes i s fun t =>
        (if (s.peek (BitVec.ofNat 16 zz.toNat)).toNat.testBit n.val = false then GoesTo (relativeTarget 3 off s) i s t
          else Continues i s t) ∧
        OnlyControlMoves s t ∧
        t.bus = s.bus ++ [.read (BitVec.ofNat 16 zz.toNat) (s.peek (BitVec.ofNat 16 zz.toNat))]) ∧
    (i.mnemonic = .bbs n → InRows i [(BitVec.ofNat 8 (0x8F + 16 * n.val), .zprel)] ∧
      ∃ zz off, i.operand = some (.zprel zz off) ∧ Completes i s fun t =>
        (if (s.peek (BitVec.ofNat 16 zz.toNat)).toNat.testBit n.val = true then GoesTo (relativeTarget 3 off s) i s t
          else Continues i s t) ∧
        OnlyControlMoves s t ∧
        t.bus = s.bus ++ [.read (BitVec.ofNat 16 zz.toNat) (s.peek (BitVec.ofNat 16 zz.toNat))])

/-! ## Stack, flag and system instructions -/

/-- The stack primitives, on numbers, and that a pulled word is the word pushed (rules R125 to R128). -/
def Obligations.StackPrimitives : Prop :=
  (∀ (v : Byte) (s : State), StoresByte (stackSlot 0 s) v s (push v s) ∧
    (push v s).sp.toNat = (s.sp.toNat + 255) % 256 ∧ (push v s).bus = s.bus ++ [.write (stackSlot 0 s) v] ∧
    (push v s).flags = s.flags ∧ (push v s).pc = s.pc) ∧
  (∀ s : State, (pull s).1 = s.peek (BitVec.ofNat 16 (0x0100 + (s.sp.toNat + 1) % 256)) ∧
    (pull s).2 = { s with
      sp := BitVec.ofNat 8 (s.sp.toNat + 1)
      bus := s.bus ++ pullReads 1 s }) ∧
  (∀ (w : Address) (s : State), (push16 w s).peek (stackSlot 0 s) = hiByte w ∧
    (push16 w s).peek (stackSlot 1 s) = loByte w ∧ (push16 w s).sp.toNat = (s.sp.toNat + 254) % 256 ∧
    (∀ b, b ≠ stackSlot 0 s → b ≠ stackSlot 1 s → (push16 w s).peek b = s.peek b)) ∧
  (∀ s : State, (pull16 s).1 = stackedWord 1 s ∧ (pull16 s).2 = { s with
    sp := BitVec.ofNat 8 (s.sp.toNat + 2)
    bus := s.bus ++ pullReads 2 s }) ∧
  (∀ (w : Address) (s : State), (pull16 (push16 w s)).1 = w ∧ (pull16 (push16 w s)).2.sp = s.sp)

/-- One push instruction: one byte at the stack pointer, which falls by one; no flag is written. -/
def Sys2Proof.Machine.PushRule (i : Instr) (op : Byte) (value : State → Byte) : Prop :=
  i.opcode = op ∧ ∀ s : State, Completes i s fun t =>
    StoresByte (stackSlot 0 s) (value s) s t ∧ t.sp = BitVec.ofNat 8 (s.sp.toNat + 255) ∧
    t.a = s.a ∧ t.x = s.x ∧ t.y = s.y ∧ t.flags = s.flags ∧ t.depth = s.depth ∧ Continues i s t ∧
    t.bus = s.bus ++ [.write (stackSlot 0 s) (value s)]

/-- The packed status with the Break bit `brk`, on numbers (rule R107). -/
def Sys2Proof.Machine.statusByte (brk : Bool) (f : Flags) : Byte :=
  BitVec.ofNat 8 (128 * f.n.toNat + 64 * f.v.toNat + 32 + 16 * brk.toNat + 8 * f.d.toNat + 4 * f.i.toNat +
    2 * f.z.toNat + f.c.toNat)

/-- `PHA`, `PHX`, `PHY`, `PHP` (rules R220 to R223; that bit 4 of the byte `PHP` pushes is 0 is the spec's decision D8,
log entry 10). -/
def Obligations.PushInstructions : Prop :=
  PushRule .pha 0x48#8 (fun s => s.a) ∧ PushRule .phx 0xDA#8 (fun s => s.x) ∧ PushRule .phy 0x5A#8 (fun s => s.y) ∧
  PushRule .php 0x08#8 (fun s => statusByte false s.flags)

/-- One pull instruction: the byte above the stack pointer, which rises by one. -/
def Sys2Proof.Machine.PullRule (i : Instr) (op : Byte) (writes : State → State → Byte → Prop) (flags : State → Byte → Flags) :
    Prop :=
  i.opcode = op ∧ ∀ s : State, Completes i s fun t =>
    (∀ v, s.peek (BitVec.ofNat 16 (0x0100 + (s.sp.toNat + 1) % 256)) = v → writes s t v ∧ t.flags = flags s v) ∧
    t.sp = BitVec.ofNat 8 (s.sp.toNat + 1) ∧ t.depth = s.depth ∧ SameBytes s t ∧ Continues i s t ∧
    t.bus = s.bus ++ pullReads 1 s

/-- The flags of a status byte, on numbers (rule R108). -/
def Sys2Proof.Machine.statusFlags (b : Byte) : Flags where
  n := b.toNat.testBit 7
  v := b.toNat.testBit 6
  d := b.toNat.testBit 3
  i := b.toNat.testBit 2
  z := b.toNat.testBit 1
  c := b.toNat.testBit 0

/-- `PLA`, `PLX`, `PLY`, `PLP` (rules R224 to R227). -/
def Obligations.PullInstructions : Prop :=
  PullRule .pla 0x68#8 (fun s t v => t.a = v ∧ t.x = s.x ∧ t.y = s.y) (fun s v => resultFlags v s.flags) ∧
  PullRule .plx 0xFA#8 (fun s t v => t.x = v ∧ t.a = s.a ∧ t.y = s.y) (fun s v => resultFlags v s.flags) ∧
  PullRule .ply 0x7A#8 (fun s t v => t.y = v ∧ t.a = s.a ∧ t.x = s.x) (fun s v => resultFlags v s.flags) ∧
  PullRule .plp 0x28#8 (fun s t _ => t.a = s.a ∧ t.x = s.x ∧ t.y = s.y) (fun _ v => statusFlags v)

/-- The seven flag instructions and `NOP` (rules R228 to R235). -/
def Obligations.FlagInstructionsAndNop : Prop :=
  let same (s t : State) : Prop := t.a = s.a ∧ t.x = s.x ∧ t.y = s.y ∧ t.sp = s.sp
  RegisterRule .clc 0x18#8 same (fun s => { s.flags with c := false }) ∧
  RegisterRule .sec 0x38#8 same (fun s => { s.flags with c := true }) ∧
  RegisterRule .cli 0x58#8 same (fun s => { s.flags with i := false }) ∧
  RegisterRule .sei 0x78#8 same (fun s => { s.flags with i := true }) ∧
  RegisterRule .cld 0xD8#8 same (fun s => { s.flags with d := false }) ∧
  RegisterRule .sed 0xF8#8 same (fun s => { s.flags with d := true }) ∧
  RegisterRule .clv 0xB8#8 same (fun s => { s.flags with v := false }) ∧
  RegisterRule .nop 0xEA#8 same (fun s => s.flags)

/-! ## Traps, interrupts and reset -/

/-- Memory, stack pointer, flags and depth after the entry sequence that pushes `ret` and the status with the Break bit
`brk`; `A`, `X`, `Y` are not saved and not changed (rule R261). -/
def Sys2Proof.Machine.EntersFrom (ret : Address) (brk : Bool) (s t : State) : Prop :=
  t.peek (stackSlot 0 s) = hiByte ret ∧ t.peek (stackSlot 1 s) = loByte ret ∧
  t.peek (stackSlot 2 s) = statusByte brk s.flags ∧
  (∀ b, b ≠ stackSlot 0 s → b ≠ stackSlot 1 s → b ≠ stackSlot 2 s → t.peek b = s.peek b) ∧
  t.sp = BitVec.ofNat 8 (s.sp.toNat + 253) ∧ t.flags = { s.flags with i := true, d := false } ∧
  t.depth = s.depth + 1 ∧ t.a = s.a ∧ t.x = s.x ∧ t.y = s.y

/-- The three writes of the entry sequence (rules R47, R261). -/
def Sys2Proof.Machine.entryWrites (ret : Address) (brk : Bool) (s : State) : List BusAccess :=
  [.write (stackSlot 0 s) (hiByte ret), .write (stackSlot 1 s) (loByte ret),
    .write (stackSlot 2 s) (statusByte brk s.flags)]

/-- `BRK` reads the IRQ vector, pushes the address past its padding byte and the status with the Break bit, sets `I`,
clears `D` and goes to the vector's word (rules R236, R264; the vector's address, its length and the order of its accesses
are the spec's decisions D1, D5 and D12, log entries 1, 3 and 15). -/
def Obligations.BrkTakesTheSoftwareInterrupt : Prop :=
  Instr.brk.opcode = 0x00#8 ∧ ∀ s : State, Completes .brk s fun t =>
    let ret := BitVec.ofNat 16 (s.pc.toNat + 2)
    EntersFrom ret true s t ∧ t.pc = s.peek16 0xFFFE#16 ∧ t.cyc = s.cyc + 7#64 ∧
    t.bus = s.bus ++ wordReads 0xFFFE#16 s ++ entryWrites ret true s

/-- `RTI` pulls the status and the program counter and restores nothing else (rules R237, R265). -/
def Obligations.RtiRestoresStatusAndPc : Prop :=
  Instr.rti.opcode = 0x40#8 ∧ ∀ s : State, Completes .rti s fun t =>
    t.flags = statusFlags (s.peek (BitVec.ofNat 16 (0x0100 + (s.sp.toNat + 1) % 256))) ∧
    t.pc = stackedWord 2 s ∧ t.sp = BitVec.ofNat 8 (s.sp.toNat + 3) ∧ t.depth = s.depth - 1 ∧
    t.cyc = s.cyc + 6#64 ∧ t.a = s.a ∧ t.x = s.x ∧ t.y = s.y ∧ SameBytes s t ∧ t.bus = s.bus ++ pullReads 3 s

/-- From every state, `BRK` then `RTI` comes back to the program counter that follows `BRK` with every flag, the stack
pointer, the depth and the registers as they were; so does an interrupt entry to its own program counter (the testable
property E7; rules R109, R264, R265; that `BRK` is followed at `PC + 2` is the spec's decision D5, log entry 3). -/
def Obligations.ReturnUndoesEntry : Prop :=
  (∀ s t : State, exec .brk s = .next t →
    ∃ u, exec .rti t = .next u ∧ u.pc = s.pc + 2#16 ∧ u.flags = s.flags ∧ u.sp = s.sp ∧ u.depth = s.depth ∧
      u.a = s.a ∧ u.x = s.x ∧ u.y = s.y ∧ u.cyc = s.cyc + 13#64) ∧
  (∀ (target : Address) (brk : Bool) (s : State),
    ∃ u, exec .rti (interruptAt target brk s) = .next u ∧ u.pc = s.pc ∧ u.flags = s.flags ∧ u.sp = s.sp ∧
      u.depth = s.depth ∧ u.a = s.a ∧ u.x = s.x ∧ u.y = s.y)

/-- `InterruptAt(target, brk)` is the entry sequence: no mask test, no vector read, no cycles (rule R261; that the
argument is the address control goes to and that no cycles are added are the spec's decisions D14 and D9, log entries 17 and
16). -/
def Obligations.InterruptAtEntersTarget : Prop :=
  ∀ (target : Address) (brk : Bool) (s : State),
    EntersFrom s.pc brk s (interruptAt target brk s) ∧ (interruptAt target brk s).pc = target ∧
    (interruptAt target brk s).cyc = s.cyc ∧ (interruptAt target brk s).bus = entryWrites s.pc brk s

/-- The maskable request is dropped while `I = 1` and else enters through `0xFFFE`; the non-maskable one always enters
through `0xFFFA`; the two vector reads come before the three writes (rules R262, R263; the vectors' addresses and the order
are the spec's decisions D1 and D12, log entries 1 and 15). -/
def Obligations.InterruptRequests : Prop :=
  ∀ s : State,
    (s.flags.i = true → interrupt false s = { s with bus := [] }) ∧
    (s.flags.i = false → interrupt false s = { interruptAt (s.peek16 0xFFFE#16) false s with
      bus := wordReads 0xFFFE#16 s ++ entryWrites s.pc false s }) ∧
    interrupt true s = { interruptAt (s.peek16 0xFFFA#16) false s with
      bus := wordReads 0xFFFA#16 s ++ entryWrites s.pc false s }

/-- `Reset()` from any state: the reset values, `PC` from the vector, `CYC` and memory as they were, two reads and no
write (rules R38, R291; that `CYC` stays and where the vector lies are the spec's decisions D10 and D1, log entries 13 and 1).
-/
def Obligations.ResetEstablishesInitialState : Prop :=
  ∀ (ratio : ClockRatio) (s : State), ∃ t : State,
    Instance.handle .reset { clockRatio := ratio, phase := .running s } =
      .next { clockRatio := ratio, phase := .running t } ∧
    t.flags = { n := false, v := false, d := false, i := true, z := true, c := false } ∧
    t.a = 0x00#8 ∧ t.x = 0x00#8 ∧ t.y = 0x00#8 ∧ t.sp = 0xFF#8 ∧ t.depth = 0 ∧ t.pc = s.peek16 0xFFFC#16 ∧
    t.cyc = s.cyc ∧ t.mem = s.mem ∧ t.bus = wordReads 0xFFFC#16 s

/-- Between `Init` and the first `Reset()` the three transactions that need register values are refused; the reset, over
any memory, gives every reset value of rule R38 with the two vector reads on the bus, and `State.reset` is what it leaves over
an empty memory (rules R38, R290, R291; the refusals are the spec's decision D17, log entry 19; that the vector lies at
`0xFFFC` its decision D1, log entry 1; that `CYC` is 0 its decision D10, log entry 13; that an unlisted byte reads `0x00` is
the model's choice, log entry 2). -/
def Obligations.FirstResetMakesTheInstanceRun : Prop :=
  ∀ (ratio : ClockRatio) (mem : Memory),
    let m := Instance.init ratio mem
    m.handle .step = .refused .beforeFirstReset ∧
    (∀ isNmi, m.handle (.interrupt isNmi) = .refused .beforeFirstReset) ∧
    (∀ target brk, m.handle (.interruptAt target brk) = .refused .beforeFirstReset) ∧
    (∃ t : State, m.handle .reset = .next { clockRatio := ratio, phase := .running t } ∧
      t.a = 0x00#8 ∧ t.x = 0x00#8 ∧ t.y = 0x00#8 ∧ t.sp = 0xFF#8 ∧ t.depth = 0 ∧
      t.flags = { n := false, v := false, d := false, i := true, z := true, c := false } ∧
      t.pc = Memory.word mem 0xFFFC#16 ∧ t.cyc = 0#64 ∧ t.mem = mem ∧
      t.bus = [.read 0xFFFC#16 (mem.read 0xFFFC#16), .read 0xFFFD#16 (mem.read 0xFFFD#16)] ∧
      (mem = Memory.empty → t = State.reset))

/-! ## Invariants and whole-machine rules -/

/-- The memory of the reset state is in canonical form. -/
def Obligations.ResetMemoryCanonical : Prop := CanonicalMemory State.reset

/-- Every step keeps the canonical form of memory. -/
def Obligations.StepKeepsMemoryCanonical : Prop := ∀ s t : State, CanonicalMemory s → step s = .next t → CanonicalMemory t

/-- Every event of the driver keeps the canonical form of memory. -/
def Obligations.EveryEventKeepsMemoryCanonical : Prop :=
  ∀ (e : Event) (p q : Phase), p.CanonicalMemory → p.handle e = .next q → q.CanonicalMemory

/-- Two canonical memories that read alike at every address are equal data. -/
def Obligations.CanonicalMemoriesAreDeterminedByReads : Prop :=
  ∀ m m' : Memory, m.wf = true → m'.wf = true → (∀ a : Address, m.read a = m'.read a) → m = m'

/-- Which instructions write each flag: an instruction outside the list of a flag leaves it as it was (rules R27 to R32). -/
def Obligations.OnlyTheirWritersChangeFlags : Prop :=
  ∀ (i : Instr) (s t : State), exec i s = .next t →
    (t.flags.n ≠ s.flags.n → i.mnemonic ∈ [Mnemonic.ora, .and, .eor, .adc, .sbc, .cmp, .cpx, .cpy, .lda, .ldx, .ldy, .tax,
      .tay, .txa, .tya, .tsx, .inx, .iny, .dex, .dey, .inc, .dec, .asl, .lsr, .rol, .ror, .pla, .plx, .ply, .bit, .plp,
      .rti] ∧ i.opcode ≠ 0x89#8) ∧
    (t.flags.v ≠ s.flags.v → i.mnemonic ∈ [Mnemonic.adc, .sbc, .bit, .clv, .plp, .rti] ∧ i.opcode ≠ 0x89#8) ∧
    (t.flags.d ≠ s.flags.d → i.mnemonic ∈ [Mnemonic.sed, .cld, .plp, .rti, .brk]) ∧
    (t.flags.i ≠ s.flags.i → i.mnemonic ∈ [Mnemonic.sei, .cli, .plp, .rti, .brk]) ∧
    (t.flags.z ≠ s.flags.z → i.mnemonic ∈ [Mnemonic.ora, .and, .eor, .adc, .sbc, .cmp, .cpx, .cpy, .lda, .ldx, .ldy, .tax,
      .tay, .txa, .tya, .tsx, .inx, .iny, .dex, .dey, .inc, .dec, .asl, .lsr, .rol, .ror, .pla, .plx, .ply, .bit, .tsb,
      .trb, .plp, .rti]) ∧
    (t.flags.c ≠ s.flags.c → i.mnemonic ∈ [Mnemonic.adc, .sbc, .cmp, .cpx, .cpy, .asl, .rol, .lsr, .ror, .sec, .clc, .plp,
      .rti])

/-- Which instructions write each register and memory: any other leaves it as it was (rules R21 to R24, R35, R99). -/
def Obligations.OnlyTheirWritersChangeRegisters : Prop :=
  ∀ (i : Instr) (s t : State), exec i s = .next t →
    (t.a ≠ s.a → i.mnemonic ∈ [Mnemonic.adc, .sbc, .and, .ora, .eor, .asl, .lsr, .rol, .ror, .inc, .dec, .lda, .pla, .txa,
      .tya]) ∧
    (t.x ≠ s.x → i.mnemonic ∈ [Mnemonic.ldx, .plx, .tax, .tsx, .inx, .dex]) ∧
    (t.y ≠ s.y → i.mnemonic ∈ [Mnemonic.ldy, .ply, .tay, .iny, .dey]) ∧
    (t.sp ≠ s.sp → i.mnemonic ∈ [Mnemonic.pha, .php, .phx, .phy, .pla, .plp, .plx, .ply, .jsr, .rts, .rti, .brk, .txs]) ∧
    (t.depth ≠ s.depth → i.mnemonic ∈ [Mnemonic.jsr, .brk, .rts, .rti]) ∧
    (¬ SameBytes s t → i.mnemonic ∈ [Mnemonic.sta, .stx, .sty, .stz, .inc, .dec, .asl, .lsr, .rol, .ror, .tsb, .trb, .pha,
      .php, .phx, .phy, .jsr, .brk] ∨ ∃ n, i.mnemonic = .rmb n ∨ i.mnemonic = .smb n)

/-- Nothing depends on `CYC`, on `DEPTH` or on the record of the bus: two states that differ in them alone make the same
step, the counters moving by the same amounts, and take the same interrupt decisions (rules R34, R35, R294; the record of
the bus is the model's own, log entry 4). -/
def Obligations.CountersAreUnobservable : Prop :=
  ∀ (s : State) (c : CycleCount) (d : Int) (l : List BusAccess),
    let s' : State := { s with cyc := c, depth := d, bus := l }
    (∀ t, step s = .next t →
      step s' = .next { t with cyc := t.cyc + (c - s.cyc), depth := t.depth + (d - s.depth) }) ∧
    (∀ r, step s = .fault r → step s' = .fault r) ∧
    (∀ isNmi, interrupt isNmi s' =
      { interrupt isNmi s with cyc := c, depth := (interrupt isNmi s).depth + (d - s.depth) }) ∧
    (∀ target brk, interruptAt target brk s' =
      { interruptAt target brk s with cyc := c, depth := (interruptAt target brk s).depth + (d - s.depth) })

/-- The bus accesses of a step: first the reads, beginning with those of the fetch and each answering what memory held
before the step, then the writes, which make the memory after it (rules R46, R47, R50, R53). -/
def Obligations.BusAccessesAccountForMemory : Prop :=
  ∀ s t : State, step s = .next t →
    ∃ reads writes : List BusAccess, t.bus = reads ++ writes ∧ fetchReads s <+: reads ∧
      (∀ b ∈ reads, ∃ a, b = .read a (s.peek a)) ∧ (∀ b ∈ writes, b.isRead = false) ∧
      t.mem = Memory.applyWrites s.mem writes ∧ reads.length ≤ 5 ∧ writes.length ≤ 3
end

