-- ==== Sys2Proof/Laws/Decode.lean ====
section
/-! SUPPORT. What the decoder answers, from the two tables it reads, and the one value two parameters share. -/

namespace Sys2Proof

/-- The declared length of opcode `0x00` is the parameter `BRK_LENGTH` (rule R7). -/
theorem Machine.config_len_brk : Machine.config.len 0x00#8 = Machine.config.brkLength := rfl

@[simp] theorem Machine.brkLengthDefault_eq : Machine.brkLengthDefault = 2 := rfl

/-- An opcode byte whose mnemonic and mode select a form decodes to that form of its operand bytes. -/
theorem decode_of_form {op : Byte} {f : Form} (h : formOf (descriptor op).mnemonic (descriptor op).mode = some f)
    (b1 b2 : Byte) : decode op b1 b2 = f b1 b2 := by
  simp only [decode, h]

/-- An opcode byte whose mnemonic and mode select no form decodes to an undefined row. -/
theorem decode_of_no_form {op : Byte} (h : formOf (descriptor op).mnemonic (descriptor op).mode = none)
    (b1 b2 : Byte) : decode op b1 b2 = undefinedInstr op := by
  simp only [decode, h]

/-- The tables of rule R64 give a form to every opcode byte with a mnemonic, and list every one without. -/
theorem form_or_listed : ∀ op : Byte, if (descriptor op).mnemonic = .undefined
    then (undefinedIn (undefinedLow ++ undefinedHigh) op).isSome = true
    else (formOf (descriptor op).mnemonic (descriptor op).mode).isSome = true := by decide

end Sys2Proof
end

