-- ==== Sys2Proof/Laws/Memory.lean ====
section
/-! SUPPORT. The laws of memory: a read after a write, and the canonical form every operation keeps. -/

namespace Sys2Proof.Machine

@[simp] theorem Memory.read_empty (a : Address) : Memory.empty.read a = unlisted := rfl

theorem Memory.lookup_insert (m : List Host.Cell) (k j : Nat) (v : Byte) :
    Memory.lookup (Memory.insert m k v) j = if j = k then v else Memory.lookup m j := by
  induction m with
  | nil => simp only [Memory.insert, Memory.lookup, eq_comm (a := k)]
  | cons c rest ih =>
    obtain ⟨a, b⟩ := c
    unfold Memory.insert
    split
    · simp only [Memory.lookup, eq_comm (a := k)]
    · split
      · rename_i _ h
        subst h
        by_cases hj : j = k <;> simp [Memory.lookup, hj, eq_comm (a := k)]
      · simp only [Memory.lookup, ih]
        split <;> rename_i h <;> [skip; rfl]
        split <;> [omega; rfl]

theorem Memory.lookup_erase (m : List Host.Cell) (k j : Nat) :
    Memory.lookup (Memory.erase m k) j = if j = k then unlisted else Memory.lookup m j := by
  induction m with
  | nil => simp [Memory.erase, Memory.lookup]
  | cons c rest ih =>
    obtain ⟨a, b⟩ := c
    unfold Memory.erase
    split
    · rename_i h
      subst h
      rw [ih]
      by_cases hj : j = a <;> simp [Memory.lookup, hj, eq_comm (a := a)]
    · simp only [Memory.lookup, ih]
      split <;> rename_i h <;> [skip; rfl]
      split <;> [omega; rfl]

/-- A read after a write gives the value written at its address and the old byte everywhere else. -/
theorem Memory.read_write (m : Memory) (a b : Address) (v : Byte) :
    (m.write a v).read b = if b = a then v else m.read b := by
  unfold Memory.read Memory.write
  have hab : b.toNat = a.toNat ↔ b = a := BitVec.toNat_inj
  split
  · rename_i hv
    simp only [Memory.lookup_erase, hab, hv]
  · simp only [Memory.lookup_insert, hab]

@[simp] theorem Memory.read_write_same (m : Memory) (a : Address) (v : Byte) : (m.write a v).read a = v := by
  simp [Memory.read_write]

theorem Memory.read_write_other (m : Memory) (a b : Address) (v : Byte) (h : b ≠ a) :
    (m.write a v).read b = m.read b := by
  simp [Memory.read_write, h]

theorem Memory.wf_empty : Memory.empty.wf = true := rfl

theorem Memory.wfFrom_cons (low a : Nat) (b : Byte) (rest : List Host.Cell) :
    Memory.wfFrom low ((a, b) :: rest) = true ↔
      low ≤ a ∧ a < 65536 ∧ b ≠ unlisted ∧ Memory.wfFrom (a + 1) rest = true := by
  simp [Memory.wfFrom, and_assoc]

theorem Memory.wfFrom_mono (m : List Host.Cell) (l l' : Nat) (h : l ≤ l') (hm : Memory.wfFrom l' m = true) :
    Memory.wfFrom l m = true := by
  cases m with
  | nil => rfl
  | cons c rest =>
    obtain ⟨a, b⟩ := c
    rw [Memory.wfFrom_cons] at hm ⊢
    exact ⟨by omega, hm.2⟩

theorem Memory.wfFrom_insert (m : List Host.Cell) (low k : Nat) (v : Byte) (hlow : low ≤ k) (hk : k < 65536)
    (hv : v ≠ unlisted) (hm : Memory.wfFrom low m = true) : Memory.wfFrom low (Memory.insert m k v) = true := by
  induction m generalizing low with
  | nil => simp [Memory.insert, Memory.wfFrom, hlow, hk, hv]
  | cons c rest ih =>
    obtain ⟨a, b⟩ := c
    have h := (Memory.wfFrom_cons low a b rest).mp hm
    unfold Memory.insert
    split
    · exact (Memory.wfFrom_cons low k v _).mpr
        ⟨hlow, hk, hv, (Memory.wfFrom_cons (k + 1) a b rest).mpr ⟨by omega, h.2⟩⟩
    · split
      · rename_i _ hka
        exact (Memory.wfFrom_cons low k v rest).mpr ⟨hlow, hk, hv, hka ▸ h.2.2.2⟩
      · exact (Memory.wfFrom_cons low a b _).mpr ⟨h.1, h.2.1, h.2.2.1, ih (a + 1) (by omega) h.2.2.2⟩

theorem Memory.wfFrom_erase (m : List Host.Cell) (low k : Nat) (hm : Memory.wfFrom low m = true) :
    Memory.wfFrom low (Memory.erase m k) = true := by
  induction m generalizing low with
  | nil => rfl
  | cons c rest ih =>
    obtain ⟨a, b⟩ := c
    have h := (Memory.wfFrom_cons low a b rest).mp hm
    unfold Memory.erase
    split
    · exact ih low (Memory.wfFrom_mono rest low (a + 1) (by omega) h.2.2.2)
    · exact (Memory.wfFrom_cons low a b _).mpr ⟨h.1, h.2.1, h.2.2.1, ih (a + 1) h.2.2.2⟩

/-- Every write keeps the canonical form. -/
@[simp] theorem Memory.wf_write (m : Memory) (a : Address) (v : Byte) (hm : m.wf = true) : (m.write a v).wf = true := by
  unfold Memory.write Memory.wf at *
  split
  · exact Memory.wfFrom_erase m 0 a.toNat hm
  · rename_i hv
    exact Memory.wfFrom_insert m 0 a.toNat v (by omega) a.isLt hv hm

/-- Below its first possible key a canonical list reads as unlisted. -/
theorem Memory.lookup_below (m : List Host.Cell) (low k : Nat) (hm : Memory.wfFrom low m = true) (hk : k < low) :
    Memory.lookup m k = unlisted := by
  induction m generalizing low with
  | nil => rfl
  | cons c rest ih =>
    obtain ⟨a, b⟩ := c
    have h := (Memory.wfFrom_cons low a b rest).mp hm
    rw [Memory.lookup, if_neg (by omega)]
    exact ih (a + 1) h.2.2.2 (by omega)

end Sys2Proof.Machine
end

