-- ==== Sys2Proof/Laws/State.lean ====
section
/-! SUPPORT. One lemma per field per update of `State`, and the byte read after each update. -/

namespace Sys2Proof.Machine

/-! ### `setPc` -/

@[simp] theorem State.setPc_pc (s : State) (v : Address) : (s.setPc v).pc = v := rfl
@[simp] theorem State.setPc_a (s : State) (v : Address) : (s.setPc v).a = s.a := rfl
@[simp] theorem State.setPc_x (s : State) (v : Address) : (s.setPc v).x = s.x := rfl
@[simp] theorem State.setPc_y (s : State) (v : Address) : (s.setPc v).y = s.y := rfl
@[simp] theorem State.setPc_sp (s : State) (v : Address) : (s.setPc v).sp = s.sp := rfl
@[simp] theorem State.setPc_flags (s : State) (v : Address) : (s.setPc v).flags = s.flags := rfl
@[simp] theorem State.setPc_cyc (s : State) (v : Address) : (s.setPc v).cyc = s.cyc := rfl
@[simp] theorem State.setPc_depth (s : State) (v : Address) : (s.setPc v).depth = s.depth := rfl
@[simp] theorem State.setPc_mem (s : State) (v : Address) : (s.setPc v).mem = s.mem := rfl
@[simp] theorem State.setPc_bus (s : State) (v : Address) : (s.setPc v).bus = s.bus := rfl
@[simp] theorem State.peek_setPc (s : State) (v : Address) (b : Address) : (s.setPc v).peek b = s.peek b := rfl

/-! ### `setA` -/

@[simp] theorem State.setA_pc (s : State) (v : Byte) : (s.setA v).pc = s.pc := rfl
@[simp] theorem State.setA_a (s : State) (v : Byte) : (s.setA v).a = v := rfl
@[simp] theorem State.setA_x (s : State) (v : Byte) : (s.setA v).x = s.x := rfl
@[simp] theorem State.setA_y (s : State) (v : Byte) : (s.setA v).y = s.y := rfl
@[simp] theorem State.setA_sp (s : State) (v : Byte) : (s.setA v).sp = s.sp := rfl
@[simp] theorem State.setA_flags (s : State) (v : Byte) : (s.setA v).flags = s.flags := rfl
@[simp] theorem State.setA_cyc (s : State) (v : Byte) : (s.setA v).cyc = s.cyc := rfl
@[simp] theorem State.setA_depth (s : State) (v : Byte) : (s.setA v).depth = s.depth := rfl
@[simp] theorem State.setA_mem (s : State) (v : Byte) : (s.setA v).mem = s.mem := rfl
@[simp] theorem State.setA_bus (s : State) (v : Byte) : (s.setA v).bus = s.bus := rfl
@[simp] theorem State.peek_setA (s : State) (v : Byte) (b : Address) : (s.setA v).peek b = s.peek b := rfl

/-! ### `setX` -/

@[simp] theorem State.setX_pc (s : State) (v : Byte) : (s.setX v).pc = s.pc := rfl
@[simp] theorem State.setX_a (s : State) (v : Byte) : (s.setX v).a = s.a := rfl
@[simp] theorem State.setX_x (s : State) (v : Byte) : (s.setX v).x = v := rfl
@[simp] theorem State.setX_y (s : State) (v : Byte) : (s.setX v).y = s.y := rfl
@[simp] theorem State.setX_sp (s : State) (v : Byte) : (s.setX v).sp = s.sp := rfl
@[simp] theorem State.setX_flags (s : State) (v : Byte) : (s.setX v).flags = s.flags := rfl
@[simp] theorem State.setX_cyc (s : State) (v : Byte) : (s.setX v).cyc = s.cyc := rfl
@[simp] theorem State.setX_depth (s : State) (v : Byte) : (s.setX v).depth = s.depth := rfl
@[simp] theorem State.setX_mem (s : State) (v : Byte) : (s.setX v).mem = s.mem := rfl
@[simp] theorem State.setX_bus (s : State) (v : Byte) : (s.setX v).bus = s.bus := rfl
@[simp] theorem State.peek_setX (s : State) (v : Byte) (b : Address) : (s.setX v).peek b = s.peek b := rfl

/-! ### `setY` -/

@[simp] theorem State.setY_pc (s : State) (v : Byte) : (s.setY v).pc = s.pc := rfl
@[simp] theorem State.setY_a (s : State) (v : Byte) : (s.setY v).a = s.a := rfl
@[simp] theorem State.setY_x (s : State) (v : Byte) : (s.setY v).x = s.x := rfl
@[simp] theorem State.setY_y (s : State) (v : Byte) : (s.setY v).y = v := rfl
@[simp] theorem State.setY_sp (s : State) (v : Byte) : (s.setY v).sp = s.sp := rfl
@[simp] theorem State.setY_flags (s : State) (v : Byte) : (s.setY v).flags = s.flags := rfl
@[simp] theorem State.setY_cyc (s : State) (v : Byte) : (s.setY v).cyc = s.cyc := rfl
@[simp] theorem State.setY_depth (s : State) (v : Byte) : (s.setY v).depth = s.depth := rfl
@[simp] theorem State.setY_mem (s : State) (v : Byte) : (s.setY v).mem = s.mem := rfl
@[simp] theorem State.setY_bus (s : State) (v : Byte) : (s.setY v).bus = s.bus := rfl
@[simp] theorem State.peek_setY (s : State) (v : Byte) (b : Address) : (s.setY v).peek b = s.peek b := rfl

/-! ### `setSp` -/

@[simp] theorem State.setSp_pc (s : State) (v : Byte) : (s.setSp v).pc = s.pc := rfl
@[simp] theorem State.setSp_a (s : State) (v : Byte) : (s.setSp v).a = s.a := rfl
@[simp] theorem State.setSp_x (s : State) (v : Byte) : (s.setSp v).x = s.x := rfl
@[simp] theorem State.setSp_y (s : State) (v : Byte) : (s.setSp v).y = s.y := rfl
@[simp] theorem State.setSp_sp (s : State) (v : Byte) : (s.setSp v).sp = v := rfl
@[simp] theorem State.setSp_flags (s : State) (v : Byte) : (s.setSp v).flags = s.flags := rfl
@[simp] theorem State.setSp_cyc (s : State) (v : Byte) : (s.setSp v).cyc = s.cyc := rfl
@[simp] theorem State.setSp_depth (s : State) (v : Byte) : (s.setSp v).depth = s.depth := rfl
@[simp] theorem State.setSp_mem (s : State) (v : Byte) : (s.setSp v).mem = s.mem := rfl
@[simp] theorem State.setSp_bus (s : State) (v : Byte) : (s.setSp v).bus = s.bus := rfl
@[simp] theorem State.peek_setSp (s : State) (v : Byte) (b : Address) : (s.setSp v).peek b = s.peek b := rfl

/-! ### `setFlags` -/

@[simp] theorem State.setFlags_pc (s : State) (v : Flags) : (s.setFlags v).pc = s.pc := rfl
@[simp] theorem State.setFlags_a (s : State) (v : Flags) : (s.setFlags v).a = s.a := rfl
@[simp] theorem State.setFlags_x (s : State) (v : Flags) : (s.setFlags v).x = s.x := rfl
@[simp] theorem State.setFlags_y (s : State) (v : Flags) : (s.setFlags v).y = s.y := rfl
@[simp] theorem State.setFlags_sp (s : State) (v : Flags) : (s.setFlags v).sp = s.sp := rfl
@[simp] theorem State.setFlags_flags (s : State) (v : Flags) : (s.setFlags v).flags = v := rfl
@[simp] theorem State.setFlags_cyc (s : State) (v : Flags) : (s.setFlags v).cyc = s.cyc := rfl
@[simp] theorem State.setFlags_depth (s : State) (v : Flags) : (s.setFlags v).depth = s.depth := rfl
@[simp] theorem State.setFlags_mem (s : State) (v : Flags) : (s.setFlags v).mem = s.mem := rfl
@[simp] theorem State.setFlags_bus (s : State) (v : Flags) : (s.setFlags v).bus = s.bus := rfl
@[simp] theorem State.peek_setFlags (s : State) (v : Flags) (b : Address) : (s.setFlags v).peek b = s.peek b := rfl

/-! ### `setCyc` -/

@[simp] theorem State.setCyc_pc (s : State) (v : CycleCount) : (s.setCyc v).pc = s.pc := rfl
@[simp] theorem State.setCyc_a (s : State) (v : CycleCount) : (s.setCyc v).a = s.a := rfl
@[simp] theorem State.setCyc_x (s : State) (v : CycleCount) : (s.setCyc v).x = s.x := rfl
@[simp] theorem State.setCyc_y (s : State) (v : CycleCount) : (s.setCyc v).y = s.y := rfl
@[simp] theorem State.setCyc_sp (s : State) (v : CycleCount) : (s.setCyc v).sp = s.sp := rfl
@[simp] theorem State.setCyc_flags (s : State) (v : CycleCount) : (s.setCyc v).flags = s.flags := rfl
@[simp] theorem State.setCyc_cyc (s : State) (v : CycleCount) : (s.setCyc v).cyc = v := rfl
@[simp] theorem State.setCyc_depth (s : State) (v : CycleCount) : (s.setCyc v).depth = s.depth := rfl
@[simp] theorem State.setCyc_mem (s : State) (v : CycleCount) : (s.setCyc v).mem = s.mem := rfl
@[simp] theorem State.setCyc_bus (s : State) (v : CycleCount) : (s.setCyc v).bus = s.bus := rfl
@[simp] theorem State.peek_setCyc (s : State) (v : CycleCount) (b : Address) : (s.setCyc v).peek b = s.peek b := rfl

/-! ### `setDepth` -/

@[simp] theorem State.setDepth_pc (s : State) (v : Int) : (s.setDepth v).pc = s.pc := rfl
@[simp] theorem State.setDepth_a (s : State) (v : Int) : (s.setDepth v).a = s.a := rfl
@[simp] theorem State.setDepth_x (s : State) (v : Int) : (s.setDepth v).x = s.x := rfl
@[simp] theorem State.setDepth_y (s : State) (v : Int) : (s.setDepth v).y = s.y := rfl
@[simp] theorem State.setDepth_sp (s : State) (v : Int) : (s.setDepth v).sp = s.sp := rfl
@[simp] theorem State.setDepth_flags (s : State) (v : Int) : (s.setDepth v).flags = s.flags := rfl
@[simp] theorem State.setDepth_cyc (s : State) (v : Int) : (s.setDepth v).cyc = s.cyc := rfl
@[simp] theorem State.setDepth_depth (s : State) (v : Int) : (s.setDepth v).depth = v := rfl
@[simp] theorem State.setDepth_mem (s : State) (v : Int) : (s.setDepth v).mem = s.mem := rfl
@[simp] theorem State.setDepth_bus (s : State) (v : Int) : (s.setDepth v).bus = s.bus := rfl
@[simp] theorem State.peek_setDepth (s : State) (v : Int) (b : Address) : (s.setDepth v).peek b = s.peek b := rfl

/-! ### `setMem` -/

@[simp] theorem State.setMem_pc (s : State) (v : Memory) : (s.setMem v).pc = s.pc := rfl
@[simp] theorem State.setMem_a (s : State) (v : Memory) : (s.setMem v).a = s.a := rfl
@[simp] theorem State.setMem_x (s : State) (v : Memory) : (s.setMem v).x = s.x := rfl
@[simp] theorem State.setMem_y (s : State) (v : Memory) : (s.setMem v).y = s.y := rfl
@[simp] theorem State.setMem_sp (s : State) (v : Memory) : (s.setMem v).sp = s.sp := rfl
@[simp] theorem State.setMem_flags (s : State) (v : Memory) : (s.setMem v).flags = s.flags := rfl
@[simp] theorem State.setMem_cyc (s : State) (v : Memory) : (s.setMem v).cyc = s.cyc := rfl
@[simp] theorem State.setMem_depth (s : State) (v : Memory) : (s.setMem v).depth = s.depth := rfl
@[simp] theorem State.setMem_mem (s : State) (v : Memory) : (s.setMem v).mem = v := rfl
@[simp] theorem State.setMem_bus (s : State) (v : Memory) : (s.setMem v).bus = s.bus := rfl
@[simp] theorem State.peek_setMem (s : State) (v : Memory) (b : Address) : (s.setMem v).peek b = Memory.read v b := rfl

/-! ### `setBus` -/

@[simp] theorem State.setBus_pc (s : State) (v : List BusAccess) : (s.setBus v).pc = s.pc := rfl
@[simp] theorem State.setBus_a (s : State) (v : List BusAccess) : (s.setBus v).a = s.a := rfl
@[simp] theorem State.setBus_x (s : State) (v : List BusAccess) : (s.setBus v).x = s.x := rfl
@[simp] theorem State.setBus_y (s : State) (v : List BusAccess) : (s.setBus v).y = s.y := rfl
@[simp] theorem State.setBus_sp (s : State) (v : List BusAccess) : (s.setBus v).sp = s.sp := rfl
@[simp] theorem State.setBus_flags (s : State) (v : List BusAccess) : (s.setBus v).flags = s.flags := rfl
@[simp] theorem State.setBus_cyc (s : State) (v : List BusAccess) : (s.setBus v).cyc = s.cyc := rfl
@[simp] theorem State.setBus_depth (s : State) (v : List BusAccess) : (s.setBus v).depth = s.depth := rfl
@[simp] theorem State.setBus_mem (s : State) (v : List BusAccess) : (s.setBus v).mem = s.mem := rfl
@[simp] theorem State.setBus_bus (s : State) (v : List BusAccess) : (s.setBus v).bus = v := rfl
@[simp] theorem State.peek_setBus (s : State) (v : List BusAccess) (b : Address) : (s.setBus v).peek b = s.peek b := rfl

/-! ### `logBus` -/

@[simp] theorem State.logBus_pc (s : State) (t : BusAccess) : (s.logBus t).pc = s.pc := rfl
@[simp] theorem State.logBus_a (s : State) (t : BusAccess) : (s.logBus t).a = s.a := rfl
@[simp] theorem State.logBus_x (s : State) (t : BusAccess) : (s.logBus t).x = s.x := rfl
@[simp] theorem State.logBus_y (s : State) (t : BusAccess) : (s.logBus t).y = s.y := rfl
@[simp] theorem State.logBus_sp (s : State) (t : BusAccess) : (s.logBus t).sp = s.sp := rfl
@[simp] theorem State.logBus_flags (s : State) (t : BusAccess) : (s.logBus t).flags = s.flags := rfl
@[simp] theorem State.logBus_cyc (s : State) (t : BusAccess) : (s.logBus t).cyc = s.cyc := rfl
@[simp] theorem State.logBus_depth (s : State) (t : BusAccess) : (s.logBus t).depth = s.depth := rfl
@[simp] theorem State.logBus_mem (s : State) (t : BusAccess) : (s.logBus t).mem = s.mem := rfl
@[simp] theorem State.logBus_bus (s : State) (t : BusAccess) : (s.logBus t).bus = s.bus ++ [t] := rfl
@[simp] theorem State.peek_logBus (s : State) (t : BusAccess) (b : Address) : (s.logBus t).peek b = s.peek b := rfl

/-! ### `clearBus` -/

@[simp] theorem State.clearBus_pc (s : State) : (s.clearBus).pc = s.pc := rfl
@[simp] theorem State.clearBus_a (s : State) : (s.clearBus).a = s.a := rfl
@[simp] theorem State.clearBus_x (s : State) : (s.clearBus).x = s.x := rfl
@[simp] theorem State.clearBus_y (s : State) : (s.clearBus).y = s.y := rfl
@[simp] theorem State.clearBus_sp (s : State) : (s.clearBus).sp = s.sp := rfl
@[simp] theorem State.clearBus_flags (s : State) : (s.clearBus).flags = s.flags := rfl
@[simp] theorem State.clearBus_cyc (s : State) : (s.clearBus).cyc = s.cyc := rfl
@[simp] theorem State.clearBus_depth (s : State) : (s.clearBus).depth = s.depth := rfl
@[simp] theorem State.clearBus_mem (s : State) : (s.clearBus).mem = s.mem := rfl
@[simp] theorem State.clearBus_bus (s : State) : (s.clearBus).bus = [] := rfl
@[simp] theorem State.peek_clearBus (s : State) (b : Address) : (s.clearBus).peek b = s.peek b := rfl

/-! ### A state is its fields -/

theorem State.ext_fields (s t : State) (hpc : s.pc = t.pc) (ha : s.a = t.a) (hx : s.x = t.x) (hy : s.y = t.y)
    (hsp : s.sp = t.sp) (hf : s.flags = t.flags) (hc : s.cyc = t.cyc) (hd : s.depth = t.depth) (hm : s.mem = t.mem)
    (hb : s.bus = t.bus) : s = t := by
  cases s; cases t; simp_all

end Sys2Proof.Machine
end

