-- ==== Sys2Proof/Laws/Ops.lean ====
section
/-! SUPPORT. One spec lemma per shared operation: everything it does, as one record. -/

namespace Sys2Proof.Machine

/-! ### The bus -/

@[simp] theorem memRead_fst (addr : Address) (s : State) : (memRead addr s).1 = s.peek addr := rfl

@[simp] theorem memRead_snd (addr : Address) (s : State) :
    (memRead addr s).2 = s.setBus (s.bus ++ [.read addr (s.peek addr)]) := rfl

theorem memWrite_eq (addr : Address) (v : Byte) (s : State) :
    memWrite addr v s = { s with mem := s.mem.write addr v, bus := s.bus ++ [.write addr v] } := rfl

@[simp] theorem peek_memWrite (addr : Address) (v : Byte) (s : State) (b : Address) :
    (memWrite addr v s).peek b = if b = addr then v else s.peek b := Memory.read_write s.mem addr b v

theorem memWrite_storesByte (addr : Address) (v : Byte) (s : State) : StoresByte addr v s (memWrite addr v s) :=
  ⟨by simp, fun b hb => by simp [hb]⟩

theorem read16_eq (addr : Address) (s : State) :
    read16 addr s = (s.peek16 addr, { s with bus := s.bus ++ wordReads addr s }) := by
  simp [read16, State.peek16, wordReads, State.setBus, State.peek]

theorem read16ZP_eq (p : Byte) (s : State) :
    read16ZP p s = (wordOf (s.peek (zext16 (p + 1#8))) (s.peek (zext16 p)),
      { s with bus := s.bus ++ zeroPageWordReads p s }) := by
  simp [read16ZP, zeroPageWordReads, State.setBus, State.peek]

/-! ### The stack -/

theorem push_eq (v : Byte) (s : State) :
    push v s = { s with
      sp := s.sp - 1#8
      mem := s.mem.write (stackAddress s.sp) v
      bus := s.bus ++ [.write (stackAddress s.sp) v] } := rfl

theorem pull_eq (s : State) :
    pull s = (s.peek (stackAddress (s.sp + 1#8)), { s with
      sp := s.sp + 1#8
      bus := s.bus ++ [.read (stackAddress (s.sp + 1#8)) (s.peek (stackAddress (s.sp + 1#8)))] }) := rfl

/-- Where the stack page lies (rules R24, R48). -/
theorem stackAddress_toNat (sp : Byte) : (stackAddress sp).toNat = 256 + sp.toNat := by
  simp only [stackAddress, config, zext16, BitVec.toNat_add, BitVec.toNat_setWidth, BitVec.toNat_ofNat]
  have := sp.isLt
  omega

/-- Different stack pointers designate different bytes. -/
@[simp] theorem stackAddress_inj (p q : Byte) : stackAddress p = stackAddress q ↔ p = q := by
  constructor
  · intro h
    have h' := congrArg BitVec.toNat h
    rw [stackAddress_toNat, stackAddress_toNat] at h'
    exact BitVec.eq_of_toNat_eq (by omega)
  · intro h
    rw [h]

theorem push16_eq (w : Address) (s : State) :
    push16 w s = { s with
      sp := s.sp - 1#8 - 1#8
      mem := (s.mem.write (stackAddress s.sp) (hiByte w)).write (stackAddress (s.sp - 1#8)) (loByte w)
      bus := s.bus ++ [.write (stackAddress s.sp) (hiByte w), .write (stackAddress (s.sp - 1#8)) (loByte w)] } := by
  simp [push16, push_eq]

theorem pull16_eq (s : State) :
    pull16 s = (wordOf (s.peek (stackAddress (s.sp + 1#8 + 1#8))) (s.peek (stackAddress (s.sp + 1#8))),
      { s with
        sp := s.sp + 1#8 + 1#8
        bus := s.bus ++ [.read (stackAddress (s.sp + 1#8)) (s.peek (stackAddress (s.sp + 1#8))),
          .read (stackAddress (s.sp + 1#8 + 1#8)) (s.peek (stackAddress (s.sp + 1#8 + 1#8)))] }) := by
  simp [pull16, pull_eq, State.peek]

/-! ### Byte order -/

theorem hiByte_wordOf (hi lo : Byte) : hiByte (wordOf hi lo) = hi := by
  apply BitVec.eq_of_toNat_eq
  have h1 := hi.isLt
  have h2 := lo.isLt
  simp only [hiByte, wordOf, zext16, BitVec.toNat_setWidth, BitVec.toNat_ushiftRight, BitVec.toNat_or,
    BitVec.toNat_shiftLeft, Nat.shiftRight_or_distrib]
  rw [Nat.mod_eq_of_lt (a := lo.toNat) (by omega), Nat.mod_eq_of_lt (a := hi.toNat) (by omega)]
  simp only [Nat.shiftLeft_eq, Nat.shiftRight_eq_div_pow]
  rw [show lo.toNat / 2 ^ 8 = 0 by omega, Nat.or_zero]
  omega

theorem loByte_wordOf (hi lo : Byte) : loByte (wordOf hi lo) = lo := by
  unfold loByte wordOf zext16
  ext k hk
  simp only [BitVec.getElem_setWidth, BitVec.getLsbD_or, BitVec.getLsbD_shiftLeft, BitVec.getLsbD_setWidth]
  have h1 : k < 8 := hk
  have h2 : k < 16 := by omega
  simp [h1, h2]

theorem wordOf_hi_lo (w : Address) : wordOf (hiByte w) (loByte w) = w := by
  unfold wordOf hiByte loByte zext16
  ext k hk
  simp only [BitVec.getElem_or, BitVec.getElem_shiftLeft, BitVec.getElem_setWidth, BitVec.getLsbD_setWidth,
    BitVec.getLsbD_ushiftRight]
  by_cases h : k < 8
  · simp [h, BitVec.getLsbD_eq_getElem hk]
  · have h8 : 8 + (k - 8) = k := by omega
    simp [h, h8, BitVec.getLsbD_eq_getElem hk, show k - 8 < 8 by omega]

/-- The word of a high and a low byte, as a number (rule R43). -/
theorem wordOf_toNat (hi lo : Byte) : (wordOf hi lo).toNat = 256 * hi.toNat + lo.toNat := by
  have h1 := hi.isLt
  have h2 := lo.isLt
  have hw : hiByte (wordOf hi lo) = hi := hiByte_wordOf hi lo
  have hl : loByte (wordOf hi lo) = lo := loByte_wordOf hi lo
  have a1 := congrArg BitVec.toNat hw
  have a2 := congrArg BitVec.toNat hl
  simp only [hiByte, loByte, BitVec.toNat_setWidth, BitVec.toNat_ushiftRight, Nat.shiftRight_eq_div_pow] at a1 a2
  have := (wordOf hi lo).isLt
  omega

/-! ### Taking an interrupt or trap, and returning from one -/

/-- Everything the entry sequence does (rule R261). -/
theorem interruptEntry_eq (target : Address) (brk : Bool) (s : State) :
    interruptEntry target brk s = { s with
      pc := target
      sp := s.sp - 1#8 - 1#8 - 1#8
      flags := { s.flags with i := true, d := false }
      depth := s.depth + 1
      mem := ((s.mem.write (stackAddress s.sp) (hiByte s.pc)).write (stackAddress (s.sp - 1#8)) (loByte s.pc)).write
        (stackAddress (s.sp - 1#8 - 1#8)) (pack brk s.flags)
      bus := s.bus ++ [.write (stackAddress s.sp) (hiByte s.pc), .write (stackAddress (s.sp - 1#8)) (loByte s.pc),
        .write (stackAddress (s.sp - 1#8 - 1#8)) (pack brk s.flags)] } := by
  simp [interruptEntry, push16_eq, push_eq, State.setPc, State.setDepth, State.setFlags]

/-- Everything the return does (rule R265). -/
theorem returnFromInterrupt_eq (s : State) :
    returnFromInterrupt s =
      (wordOf (s.peek (stackAddress (s.sp + 1#8 + 1#8 + 1#8))) (s.peek (stackAddress (s.sp + 1#8 + 1#8))),
      { s with
        sp := s.sp + 1#8 + 1#8 + 1#8
        flags := unpack (s.peek (stackAddress (s.sp + 1#8)))
        depth := s.depth - 1
        bus := s.bus ++ [.read (stackAddress (s.sp + 1#8)) (s.peek (stackAddress (s.sp + 1#8))),
          .read (stackAddress (s.sp + 1#8 + 1#8)) (s.peek (stackAddress (s.sp + 1#8 + 1#8))),
          .read (stackAddress (s.sp + 1#8 + 1#8 + 1#8)) (s.peek (stackAddress (s.sp + 1#8 + 1#8 + 1#8)))] }) := by
  simp [returnFromInterrupt, pull_eq, pull16_eq, State.setDepth, State.setFlags, State.peek]

/-! ### The resolver -/

/-- The resolver answers the address and makes the pointer reads, and changes nothing else (rule R80). -/
theorem effectiveAddress_eq (m : MemOperand) (s : State) :
    effectiveAddress m s = (operandAddress m s, { s with bus := s.bus ++ pointerReads m s }) := by
  cases m <;> simp [effectiveAddress, operandAddress, pointerReads, read16_eq, read16ZP_eq]

/-- Reading an operand answers the operand byte and makes its reads, and changes nothing else. -/
theorem readOperand_eq (m : MemOperand) (s : State) :
    readOperand m s = (operandByte m s, { s with bus := s.bus ++ operandReads m s }) := by
  cases m <;> simp [readOperand, operandByte, operandReads, effectiveAddress_eq, memRead, State.peek, State.logBus,
    State.setBus]

/-! ### The engine -/

/-- A behaviour followed by steps 4 and 5 of rule R120 always answers a next state. -/
theorem runOpcode_eq (op : Byte) (behaviour : State → Executed) (s : State) :
    runOpcode op behaviour s = .next { genericFlags (descriptor op).flagMask (behaviour s).result (behaviour s).state with
      pc := (behaviour s).next.getD (s.pc + BitVec.ofNat 16 (descriptor op).length)
      cyc := (genericFlags (descriptor op).flagMask (behaviour s).result (behaviour s).state).cyc +
        BitVec.ofNat 64 (descriptor op).baseCycles } := rfl

@[simp] theorem genericFlags_mem (mask : FlagMask) (r : Option Byte) (s : State) :
    (genericFlags mask r s).mem = s.mem := by
  cases r <;> rfl

@[simp] theorem genericFlags_cyc (mask : FlagMask) (r : Option Byte) (s : State) :
    (genericFlags mask r s).cyc = s.cyc := by
  cases r <;> rfl

/-- The generic rule with mask `NZ`, on numbers (rule R110). -/
theorem setNZ_nz (r : Byte) (f : Flags) : setNZ .nz r f = resultFlags r f := by
  have h := r.isLt
  have h7 : r.getLsbD 7 = decide (128 ≤ r.toNat) := by
    have := BitVec.msb_eq_decide r
    rw [BitVec.msb_eq_getLsbD_last] at this
    exact this
  have hz : (r = 0#8) ↔ r.toNat = 0 := by
    rw [← BitVec.toNat_inj]
    rfl
  simp only [setNZ, resultFlags, h7, hz]

end Sys2Proof.Machine
end

