-- ==== Sys2Proof/Laws/Exec.lean ====
section
/-! SUPPORT. The 256 meanings at once: each is the behaviour of its mnemonic on its operand, run for its opcode. -/

namespace Sys2Proof.Machine

/-- A behaviour that takes an operand with an effective address. -/
def onMem (f : MemOperand → State → Executed) : Option Operand → Option (State → Executed)
  | some (.mem m) => some (f m)
  | _ => none

/-- A behaviour that takes no operand. -/
def onImplied (b : State → Executed) : Option Operand → Option (State → Executed)
  | some .imp => some b
  | _ => none

/-- A behaviour with an accumulator form and memory forms. -/
def onAccOrMem (b : State → Executed) (f : MemOperand → State → Executed) : Option Operand → Option (State → Executed)
  | some .acc => some b
  | some (.mem m) => some (f m)
  | _ => none

/-- A behaviour that takes a branch offset. -/
def onRelative (f : Byte → State → Executed) : Option Operand → Option (State → Executed)
  | some (.rel off) => some (f off)
  | _ => none

/-- A behaviour that takes a zero-page address and a branch offset. -/
def onBit (f : Byte → Byte → State → Executed) : Option Operand → Option (State → Executed)
  | some (.zprel zz off) => some (f zz off)
  | _ => none

/-- `BIT` in its immediate mode and in its memory modes (rule R168). -/
def bitBehaviour : MemOperand → State → Executed
  | .imm nn => bitOnlyZ (.imm nn)
  | m => bitMem m

/-- The behaviour of a mnemonic on an operand; none for a pair the instruction set does not have. -/
def behaviourOf (mn : Mnemonic) (o : Option Operand) : Option (State → Executed) :=
  match mn with
  | .lda => onMem loadA o
  | .ldx => onMem loadX o
  | .ldy => onMem loadY o
  | .sta => onMem storeA o
  | .stx => onMem storeX o
  | .sty => onMem storeY o
  | .stz => onMem storeZero o
  | .tax => onImplied copyAToX o
  | .tay => onImplied copyAToY o
  | .txa => onImplied copyXToA o
  | .tya => onImplied copyYToA o
  | .tsx => onImplied copySpToX o
  | .txs => onImplied copyXToSp o
  | .adc => onMem addToA o
  | .sbc => onMem subFromA o
  | .and => onMem andA o
  | .ora => onMem orA o
  | .eor => onMem eorA o
  | .cmp => onMem compareA o
  | .cpx => onMem compareX o
  | .cpy => onMem compareY o
  | .bit => onMem bitBehaviour o
  | .tsb => onMem testAndSet o
  | .trb => onMem testAndReset o
  | .inc => onAccOrMem incA incMem o
  | .dec => onAccOrMem decA decMem o
  | .inx => onImplied incX o
  | .iny => onImplied incY o
  | .dex => onImplied decX o
  | .dey => onImplied decY o
  | .asl => onAccOrMem aslA aslMem o
  | .lsr => onAccOrMem lsrA lsrMem o
  | .rol => onAccOrMem rolA rolMem o
  | .ror => onAccOrMem rorA rorMem o
  | .rmb n => onMem (resetMemBit n) o
  | .smb n => onMem (setMemBit n) o
  | .jmp => onMem jumpTo o
  | .jsr => onMem callSubroutine o
  | .rts => onImplied returnFromSubroutine o
  | .bpl => onRelative branchPlus o
  | .bmi => onRelative branchMinus o
  | .bvc => onRelative branchOverflowClear o
  | .bvs => onRelative branchOverflowSet o
  | .bcc => onRelative branchCarryClear o
  | .bcs => onRelative branchCarrySet o
  | .bne => onRelative branchNotEqual o
  | .beq => onRelative branchEqual o
  | .bra => onRelative branchAlways o
  | .bbr n => onBit (branchBitReset n) o
  | .bbs n => onBit (branchBitSet n) o
  | .pha => onImplied pushA o
  | .phx => onImplied pushX o
  | .phy => onImplied pushY o
  | .php => onImplied pushStatus o
  | .pla => onImplied pullA o
  | .plx => onImplied pullX o
  | .ply => onImplied pullY o
  | .plp => onImplied pullStatus o
  | .clc => onImplied clearCarry o
  | .sec => onImplied setCarry o
  | .cli => onImplied clearInterruptDisable o
  | .sei => onImplied setInterruptDisable o
  | .cld => onImplied clearDecimal o
  | .sed => onImplied setDecimal o
  | .clv => onImplied clearOverflow o
  | .nop => onImplied noOperation o
  | .brk => onImplied softwareInterrupt o
  | .rti => onImplied interruptReturn o
  | .undefined => none

/-! ### What each operand form gives, by inversion -/

theorem onMem_eq_some {f : MemOperand → State → Executed} {o : Option Operand} {b : State → Executed}
    (h : onMem f o = some b) : ∃ m, o = some (.mem m) ∧ b = f m := by
  unfold onMem at h
  split at h <;> simp_all

theorem onImplied_eq_some {f : State → Executed} {o : Option Operand} {b : State → Executed}
    (h : onImplied f o = some b) : o = some .imp ∧ b = f := by
  unfold onImplied at h
  split at h <;> simp_all

theorem onAccOrMem_eq_some {f : State → Executed} {g : MemOperand → State → Executed} {o : Option Operand}
    {b : State → Executed} (h : onAccOrMem f g o = some b) :
    (o = some .acc ∧ b = f) ∨ ∃ m, o = some (.mem m) ∧ b = g m := by
  unfold onAccOrMem at h
  split at h <;> simp_all

theorem onRelative_eq_some {f : Byte → State → Executed} {o : Option Operand} {b : State → Executed}
    (h : onRelative f o = some b) : ∃ off, o = some (.rel off) ∧ b = f off := by
  unfold onRelative at h
  split at h <;> simp_all

theorem onBit_eq_some {f : Byte → Byte → State → Executed} {o : Option Operand} {b : State → Executed}
    (h : onBit f o = some b) : ∃ zz off, o = some (.zprel zz off) ∧ b = f zz off := by
  unfold onBit at h
  split at h <;> simp_all

/-- The behaviours of the instruction set, one constructor each: `cases` on it is the one case split over them. -/
inductive IsBehaviour : (State → Executed) → Prop
  | loadA (m) : IsBehaviour (loadA m)
  | loadX (m) : IsBehaviour (loadX m)
  | loadY (m) : IsBehaviour (loadY m)
  | storeA (m) : IsBehaviour (storeA m)
  | storeX (m) : IsBehaviour (storeX m)
  | storeY (m) : IsBehaviour (storeY m)
  | storeZero (m) : IsBehaviour (storeZero m)
  | copyAToX : IsBehaviour copyAToX
  | copyAToY : IsBehaviour copyAToY
  | copyXToA : IsBehaviour copyXToA
  | copyYToA : IsBehaviour copyYToA
  | copySpToX : IsBehaviour copySpToX
  | copyXToSp : IsBehaviour copyXToSp
  | addToA (m) : IsBehaviour (addToA m)
  | subFromA (m) : IsBehaviour (subFromA m)
  | andA (m) : IsBehaviour (andA m)
  | orA (m) : IsBehaviour (orA m)
  | eorA (m) : IsBehaviour (eorA m)
  | compareA (m) : IsBehaviour (compareA m)
  | compareX (m) : IsBehaviour (compareX m)
  | compareY (m) : IsBehaviour (compareY m)
  | bitOnlyZ (nn) : IsBehaviour (bitOnlyZ (.imm nn))
  | bitMem (m) : IsBehaviour (bitMem m)
  | testAndSet (m) : IsBehaviour (testAndSet m)
  | testAndReset (m) : IsBehaviour (testAndReset m)
  | incA : IsBehaviour incA
  | incMem (m) : IsBehaviour (incMem m)
  | decA : IsBehaviour decA
  | decMem (m) : IsBehaviour (decMem m)
  | incX : IsBehaviour incX
  | incY : IsBehaviour incY
  | decX : IsBehaviour decX
  | decY : IsBehaviour decY
  | aslA : IsBehaviour aslA
  | aslMem (m) : IsBehaviour (aslMem m)
  | lsrA : IsBehaviour lsrA
  | lsrMem (m) : IsBehaviour (lsrMem m)
  | rolA : IsBehaviour rolA
  | rolMem (m) : IsBehaviour (rolMem m)
  | rorA : IsBehaviour rorA
  | rorMem (m) : IsBehaviour (rorMem m)
  | resetMemBit (n) (m) : IsBehaviour (resetMemBit n m)
  | setMemBit (n) (m) : IsBehaviour (setMemBit n m)
  | jumpTo (m) : IsBehaviour (jumpTo m)
  | callSubroutine (m) : IsBehaviour (callSubroutine m)
  | returnFromSubroutine : IsBehaviour returnFromSubroutine
  | branchPlus (off) : IsBehaviour (branchPlus off)
  | branchMinus (off) : IsBehaviour (branchMinus off)
  | branchOverflowClear (off) : IsBehaviour (branchOverflowClear off)
  | branchOverflowSet (off) : IsBehaviour (branchOverflowSet off)
  | branchCarryClear (off) : IsBehaviour (branchCarryClear off)
  | branchCarrySet (off) : IsBehaviour (branchCarrySet off)
  | branchNotEqual (off) : IsBehaviour (branchNotEqual off)
  | branchEqual (off) : IsBehaviour (branchEqual off)
  | branchAlways (off) : IsBehaviour (branchAlways off)
  | branchBitReset (n) (zz off) : IsBehaviour (branchBitReset n zz off)
  | branchBitSet (n) (zz off) : IsBehaviour (branchBitSet n zz off)
  | pushA : IsBehaviour pushA
  | pushX : IsBehaviour pushX
  | pushY : IsBehaviour pushY
  | pushStatus : IsBehaviour pushStatus
  | pullA : IsBehaviour pullA
  | pullX : IsBehaviour pullX
  | pullY : IsBehaviour pullY
  | pullStatus : IsBehaviour pullStatus
  | clearCarry : IsBehaviour clearCarry
  | setCarry : IsBehaviour setCarry
  | clearInterruptDisable : IsBehaviour clearInterruptDisable
  | setInterruptDisable : IsBehaviour setInterruptDisable
  | clearDecimal : IsBehaviour clearDecimal
  | setDecimal : IsBehaviour setDecimal
  | clearOverflow : IsBehaviour clearOverflow
  | noOperation : IsBehaviour noOperation
  | softwareInterrupt : IsBehaviour softwareInterrupt
  | interruptReturn : IsBehaviour interruptReturn

/-- Every behaviour a mnemonic has is one of them. -/
theorem isBehaviour_of_behaviourOf {mn : Mnemonic} {o : Option Operand} {b : State → Executed}
    (h : behaviourOf mn o = some b) : IsBehaviour b := by
  cases mn with
  | lda => obtain ⟨m, _, rfl⟩ := onMem_eq_some h; exact .loadA m
  | ldx => obtain ⟨m, _, rfl⟩ := onMem_eq_some h; exact .loadX m
  | ldy => obtain ⟨m, _, rfl⟩ := onMem_eq_some h; exact .loadY m
  | sta => obtain ⟨m, _, rfl⟩ := onMem_eq_some h; exact .storeA m
  | stx => obtain ⟨m, _, rfl⟩ := onMem_eq_some h; exact .storeX m
  | sty => obtain ⟨m, _, rfl⟩ := onMem_eq_some h; exact .storeY m
  | stz => obtain ⟨m, _, rfl⟩ := onMem_eq_some h; exact .storeZero m
  | tax => obtain ⟨_, rfl⟩ := onImplied_eq_some h; exact .copyAToX
  | tay => obtain ⟨_, rfl⟩ := onImplied_eq_some h; exact .copyAToY
  | txa => obtain ⟨_, rfl⟩ := onImplied_eq_some h; exact .copyXToA
  | tya => obtain ⟨_, rfl⟩ := onImplied_eq_some h; exact .copyYToA
  | tsx => obtain ⟨_, rfl⟩ := onImplied_eq_some h; exact .copySpToX
  | txs => obtain ⟨_, rfl⟩ := onImplied_eq_some h; exact .copyXToSp
  | adc => obtain ⟨m, _, rfl⟩ := onMem_eq_some h; exact .addToA m
  | sbc => obtain ⟨m, _, rfl⟩ := onMem_eq_some h; exact .subFromA m
  | and => obtain ⟨m, _, rfl⟩ := onMem_eq_some h; exact .andA m
  | ora => obtain ⟨m, _, rfl⟩ := onMem_eq_some h; exact .orA m
  | eor => obtain ⟨m, _, rfl⟩ := onMem_eq_some h; exact .eorA m
  | cmp => obtain ⟨m, _, rfl⟩ := onMem_eq_some h; exact .compareA m
  | cpx => obtain ⟨m, _, rfl⟩ := onMem_eq_some h; exact .compareX m
  | cpy => obtain ⟨m, _, rfl⟩ := onMem_eq_some h; exact .compareY m
  | bit => obtain ⟨m, _, rfl⟩ := onMem_eq_some h; cases m <;> first | exact .bitOnlyZ _ | exact .bitMem _
  | tsb => obtain ⟨m, _, rfl⟩ := onMem_eq_some h; exact .testAndSet m
  | trb => obtain ⟨m, _, rfl⟩ := onMem_eq_some h; exact .testAndReset m
  | inc => rcases onAccOrMem_eq_some h with ⟨_, rfl⟩ | ⟨m, _, rfl⟩; exacts [.incA, .incMem m]
  | dec => rcases onAccOrMem_eq_some h with ⟨_, rfl⟩ | ⟨m, _, rfl⟩; exacts [.decA, .decMem m]
  | inx => obtain ⟨_, rfl⟩ := onImplied_eq_some h; exact .incX
  | iny => obtain ⟨_, rfl⟩ := onImplied_eq_some h; exact .incY
  | dex => obtain ⟨_, rfl⟩ := onImplied_eq_some h; exact .decX
  | dey => obtain ⟨_, rfl⟩ := onImplied_eq_some h; exact .decY
  | asl => rcases onAccOrMem_eq_some h with ⟨_, rfl⟩ | ⟨m, _, rfl⟩; exacts [.aslA, .aslMem m]
  | lsr => rcases onAccOrMem_eq_some h with ⟨_, rfl⟩ | ⟨m, _, rfl⟩; exacts [.lsrA, .lsrMem m]
  | rol => rcases onAccOrMem_eq_some h with ⟨_, rfl⟩ | ⟨m, _, rfl⟩; exacts [.rolA, .rolMem m]
  | ror => rcases onAccOrMem_eq_some h with ⟨_, rfl⟩ | ⟨m, _, rfl⟩; exacts [.rorA, .rorMem m]
  | rmb n => obtain ⟨m, _, rfl⟩ := onMem_eq_some h; exact .resetMemBit n m
  | smb n => obtain ⟨m, _, rfl⟩ := onMem_eq_some h; exact .setMemBit n m
  | jmp => obtain ⟨m, _, rfl⟩ := onMem_eq_some h; exact .jumpTo m
  | jsr => obtain ⟨m, _, rfl⟩ := onMem_eq_some h; exact .callSubroutine m
  | rts => obtain ⟨_, rfl⟩ := onImplied_eq_some h; exact .returnFromSubroutine
  | bpl => obtain ⟨off, _, rfl⟩ := onRelative_eq_some h; exact .branchPlus off
  | bmi => obtain ⟨off, _, rfl⟩ := onRelative_eq_some h; exact .branchMinus off
  | bvc => obtain ⟨off, _, rfl⟩ := onRelative_eq_some h; exact .branchOverflowClear off
  | bvs => obtain ⟨off, _, rfl⟩ := onRelative_eq_some h; exact .branchOverflowSet off
  | bcc => obtain ⟨off, _, rfl⟩ := onRelative_eq_some h; exact .branchCarryClear off
  | bcs => obtain ⟨off, _, rfl⟩ := onRelative_eq_some h; exact .branchCarrySet off
  | bne => obtain ⟨off, _, rfl⟩ := onRelative_eq_some h; exact .branchNotEqual off
  | beq => obtain ⟨off, _, rfl⟩ := onRelative_eq_some h; exact .branchEqual off
  | bra => obtain ⟨off, _, rfl⟩ := onRelative_eq_some h; exact .branchAlways off
  | bbr n => obtain ⟨zz, off, _, rfl⟩ := onBit_eq_some h; exact .branchBitReset n zz off
  | bbs n => obtain ⟨zz, off, _, rfl⟩ := onBit_eq_some h; exact .branchBitSet n zz off
  | pha => obtain ⟨_, rfl⟩ := onImplied_eq_some h; exact .pushA
  | phx => obtain ⟨_, rfl⟩ := onImplied_eq_some h; exact .pushX
  | phy => obtain ⟨_, rfl⟩ := onImplied_eq_some h; exact .pushY
  | php => obtain ⟨_, rfl⟩ := onImplied_eq_some h; exact .pushStatus
  | pla => obtain ⟨_, rfl⟩ := onImplied_eq_some h; exact .pullA
  | plx => obtain ⟨_, rfl⟩ := onImplied_eq_some h; exact .pullX
  | ply => obtain ⟨_, rfl⟩ := onImplied_eq_some h; exact .pullY
  | plp => obtain ⟨_, rfl⟩ := onImplied_eq_some h; exact .pullStatus
  | clc => obtain ⟨_, rfl⟩ := onImplied_eq_some h; exact .clearCarry
  | sec => obtain ⟨_, rfl⟩ := onImplied_eq_some h; exact .setCarry
  | cli => obtain ⟨_, rfl⟩ := onImplied_eq_some h; exact .clearInterruptDisable
  | sei => obtain ⟨_, rfl⟩ := onImplied_eq_some h; exact .setInterruptDisable
  | cld => obtain ⟨_, rfl⟩ := onImplied_eq_some h; exact .clearDecimal
  | sed => obtain ⟨_, rfl⟩ := onImplied_eq_some h; exact .setDecimal
  | clv => obtain ⟨_, rfl⟩ := onImplied_eq_some h; exact .clearOverflow
  | nop => obtain ⟨_, rfl⟩ := onImplied_eq_some h; exact .noOperation
  | brk => obtain ⟨_, rfl⟩ := onImplied_eq_some h; exact .softwareInterrupt
  | rti => obtain ⟨_, rfl⟩ := onImplied_eq_some h; exact .interruptReturn
  | undefined => cases h

/-- The meaning of every instruction, by its mnemonic and operand. -/
theorem exec_eq_behaviour (i : Instr) (s : State) :
    exec i s = match behaviourOf i.mnemonic i.operand with
      | some b => runOpcode i.opcode b s
      | none => undefinedOpcode i.opcode s := by
  cases i <;> simp only [Instr.mnemonic, Instr.descriptor, Instr.opcode, Instr.operand] <;> rfl

/-- What `exec` can do, said once: an instruction with an operand runs its behaviour and answers the next state of
rule R120; one without is an undefined opcode. -/
theorem exec_cases (i : Instr) (s : State) :
    (∃ b, behaviourOf i.mnemonic i.operand = some b ∧ exec i s = runOpcode i.opcode b s) ∨
      (behaviourOf i.mnemonic i.operand = none ∧ exec i s = .fault (.undefinedOpcode s.pc i.opcode)) := by
  rw [exec_eq_behaviour]
  cases h : behaviourOf i.mnemonic i.operand with
  | none => exact .inr ⟨rfl, rfl⟩
  | some b => exact .inl ⟨b, rfl, rfl⟩

end Sys2Proof.Machine
end

