-- ==== Sys2Proof/Laws/PerInstr.lean ====
section
/-! SUPPORT. A statement about every instruction as syntax: its own fields agree with its row of the decoder table. -/

namespace Sys2Proof.Laws.TableAgreement

/-- The operand of `i` is in the mode of its row, its bytes fill `LEN` (rules R60, R61), and the decoder reads its opcode
back with a mnemonic exactly when it has an operand (rules R68, R98). -/
def Statement (i : Instr) : Prop :=
  i.operand.map Operand.mode = i.mode ∧ (encode i).length = i.length ∧ (encode i).head? = some i.opcode ∧
    i.wellFormed = i.operand.isSome

/-- The four agreements from closed facts about the opcode byte. -/
theorem statement_of_opcode (i : Instr) (op : Byte) (ho : i.opcode = op)
    (hm : i.operand.map Operand.mode = (descriptor op).mode) (hl : i.operandBytes.length + 1 ≤ (descriptor op).length)
    (hw : (match (descriptor op).mnemonic with | .undefined => false | _ => true) = i.operand.isSome) : Statement i := by
  subst ho
  refine ⟨hm, ?_, rfl, hw⟩
  simp only [encode, List.length_append, List.length_cons, List.length_replicate]
  exact Nat.add_sub_of_le hl

theorem brk : Statement .brk :=
  statement_of_opcode _ 0x00#8 rfl rfl (Nat.le_of_ble_eq_true rfl) rfl
theorem oraZpindx (zz : Byte) : Statement (.oraZpindx zz) :=
  statement_of_opcode _ 0x01#8 rfl rfl (Nat.le_of_ble_eq_true rfl) rfl
theorem und02 : Statement .und02 :=
  statement_of_opcode _ 0x02#8 rfl rfl (Nat.le_of_ble_eq_true rfl) rfl
theorem und03 : Statement .und03 :=
  statement_of_opcode _ 0x03#8 rfl rfl (Nat.le_of_ble_eq_true rfl) rfl
theorem tsbZp (zz : Byte) : Statement (.tsbZp zz) :=
  statement_of_opcode _ 0x04#8 rfl rfl (Nat.le_of_ble_eq_true rfl) rfl
theorem oraZp (zz : Byte) : Statement (.oraZp zz) :=
  statement_of_opcode _ 0x05#8 rfl rfl (Nat.le_of_ble_eq_true rfl) rfl
theorem aslZp (zz : Byte) : Statement (.aslZp zz) :=
  statement_of_opcode _ 0x06#8 rfl rfl (Nat.le_of_ble_eq_true rfl) rfl
theorem rmb0 (zz : Byte) : Statement (.rmb0 zz) :=
  statement_of_opcode _ 0x07#8 rfl rfl (Nat.le_of_ble_eq_true rfl) rfl
theorem php : Statement .php :=
  statement_of_opcode _ 0x08#8 rfl rfl (Nat.le_of_ble_eq_true rfl) rfl
theorem oraImm (nn : Byte) : Statement (.oraImm nn) :=
  statement_of_opcode _ 0x09#8 rfl rfl (Nat.le_of_ble_eq_true rfl) rfl
theorem aslAcc : Statement .aslAcc :=
  statement_of_opcode _ 0x0A#8 rfl rfl (Nat.le_of_ble_eq_true rfl) rfl
theorem und0B : Statement .und0B :=
  statement_of_opcode _ 0x0B#8 rfl rfl (Nat.le_of_ble_eq_true rfl) rfl
theorem tsbAbs (addr : Address) : Statement (.tsbAbs addr) :=
  statement_of_opcode _ 0x0C#8 rfl rfl (Nat.le_of_ble_eq_true rfl) rfl
theorem oraAbs (addr : Address) : Statement (.oraAbs addr) :=
  statement_of_opcode _ 0x0D#8 rfl rfl (Nat.le_of_ble_eq_true rfl) rfl
theorem aslAbs (addr : Address) : Statement (.aslAbs addr) :=
  statement_of_opcode _ 0x0E#8 rfl rfl (Nat.le_of_ble_eq_true rfl) rfl
theorem bbr0 (zz : Byte) (off : Byte) : Statement (.bbr0 zz off) :=
  statement_of_opcode _ 0x0F#8 rfl rfl (Nat.le_of_ble_eq_true rfl) rfl
theorem bpl (off : Byte) : Statement (.bpl off) :=
  statement_of_opcode _ 0x10#8 rfl rfl (Nat.le_of_ble_eq_true rfl) rfl
theorem oraZpindy (zz : Byte) : Statement (.oraZpindy zz) :=
  statement_of_opcode _ 0x11#8 rfl rfl (Nat.le_of_ble_eq_true rfl) rfl
theorem oraZpind (zz : Byte) : Statement (.oraZpind zz) :=
  statement_of_opcode _ 0x12#8 rfl rfl (Nat.le_of_ble_eq_true rfl) rfl
theorem und13 : Statement .und13 :=
  statement_of_opcode _ 0x13#8 rfl rfl (Nat.le_of_ble_eq_true rfl) rfl
theorem trbZp (zz : Byte) : Statement (.trbZp zz) :=
  statement_of_opcode _ 0x14#8 rfl rfl (Nat.le_of_ble_eq_true rfl) rfl
theorem oraZpx (zz : Byte) : Statement (.oraZpx zz) :=
  statement_of_opcode _ 0x15#8 rfl rfl (Nat.le_of_ble_eq_true rfl) rfl
theorem aslZpx (zz : Byte) : Statement (.aslZpx zz) :=
  statement_of_opcode _ 0x16#8 rfl rfl (Nat.le_of_ble_eq_true rfl) rfl
theorem rmb1 (zz : Byte) : Statement (.rmb1 zz) :=
  statement_of_opcode _ 0x17#8 rfl rfl (Nat.le_of_ble_eq_true rfl) rfl
theorem clc : Statement .clc :=
  statement_of_opcode _ 0x18#8 rfl rfl (Nat.le_of_ble_eq_true rfl) rfl
theorem oraAbsy (addr : Address) : Statement (.oraAbsy addr) :=
  statement_of_opcode _ 0x19#8 rfl rfl (Nat.le_of_ble_eq_true rfl) rfl
theorem incAcc : Statement .incAcc :=
  statement_of_opcode _ 0x1A#8 rfl rfl (Nat.le_of_ble_eq_true rfl) rfl
theorem und1B : Statement .und1B :=
  statement_of_opcode _ 0x1B#8 rfl rfl (Nat.le_of_ble_eq_true rfl) rfl
theorem trbAbs (addr : Address) : Statement (.trbAbs addr) :=
  statement_of_opcode _ 0x1C#8 rfl rfl (Nat.le_of_ble_eq_true rfl) rfl
theorem oraAbsx (addr : Address) : Statement (.oraAbsx addr) :=
  statement_of_opcode _ 0x1D#8 rfl rfl (Nat.le_of_ble_eq_true rfl) rfl
theorem aslAbsx (addr : Address) : Statement (.aslAbsx addr) :=
  statement_of_opcode _ 0x1E#8 rfl rfl (Nat.le_of_ble_eq_true rfl) rfl
theorem bbr1 (zz : Byte) (off : Byte) : Statement (.bbr1 zz off) :=
  statement_of_opcode _ 0x1F#8 rfl rfl (Nat.le_of_ble_eq_true rfl) rfl
theorem jsrAbs (addr : Address) : Statement (.jsrAbs addr) :=
  statement_of_opcode _ 0x20#8 rfl rfl (Nat.le_of_ble_eq_true rfl) rfl
theorem andZpindx (zz : Byte) : Statement (.andZpindx zz) :=
  statement_of_opcode _ 0x21#8 rfl rfl (Nat.le_of_ble_eq_true rfl) rfl
theorem und22 : Statement .und22 :=
  statement_of_opcode _ 0x22#8 rfl rfl (Nat.le_of_ble_eq_true rfl) rfl
theorem und23 : Statement .und23 :=
  statement_of_opcode _ 0x23#8 rfl rfl (Nat.le_of_ble_eq_true rfl) rfl
theorem bitZp (zz : Byte) : Statement (.bitZp zz) :=
  statement_of_opcode _ 0x24#8 rfl rfl (Nat.le_of_ble_eq_true rfl) rfl
theorem andZp (zz : Byte) : Statement (.andZp zz) :=
  statement_of_opcode _ 0x25#8 rfl rfl (Nat.le_of_ble_eq_true rfl) rfl
theorem rolZp (zz : Byte) : Statement (.rolZp zz) :=
  statement_of_opcode _ 0x26#8 rfl rfl (Nat.le_of_ble_eq_true rfl) rfl
theorem rmb2 (zz : Byte) : Statement (.rmb2 zz) :=
  statement_of_opcode _ 0x27#8 rfl rfl (Nat.le_of_ble_eq_true rfl) rfl
theorem plp : Statement .plp :=
  statement_of_opcode _ 0x28#8 rfl rfl (Nat.le_of_ble_eq_true rfl) rfl
theorem andImm (nn : Byte) : Statement (.andImm nn) :=
  statement_of_opcode _ 0x29#8 rfl rfl (Nat.le_of_ble_eq_true rfl) rfl
theorem rolAcc : Statement .rolAcc :=
  statement_of_opcode _ 0x2A#8 rfl rfl (Nat.le_of_ble_eq_true rfl) rfl
theorem und2B : Statement .und2B :=
  statement_of_opcode _ 0x2B#8 rfl rfl (Nat.le_of_ble_eq_true rfl) rfl
theorem bitAbs (addr : Address) : Statement (.bitAbs addr) :=
  statement_of_opcode _ 0x2C#8 rfl rfl (Nat.le_of_ble_eq_true rfl) rfl
theorem andAbs (addr : Address) : Statement (.andAbs addr) :=
  statement_of_opcode _ 0x2D#8 rfl rfl (Nat.le_of_ble_eq_true rfl) rfl
theorem rolAbs (addr : Address) : Statement (.rolAbs addr) :=
  statement_of_opcode _ 0x2E#8 rfl rfl (Nat.le_of_ble_eq_true rfl) rfl
theorem bbr2 (zz : Byte) (off : Byte) : Statement (.bbr2 zz off) :=
  statement_of_opcode _ 0x2F#8 rfl rfl (Nat.le_of_ble_eq_true rfl) rfl
theorem bmi (off : Byte) : Statement (.bmi off) :=
  statement_of_opcode _ 0x30#8 rfl rfl (Nat.le_of_ble_eq_true rfl) rfl
theorem andZpindy (zz : Byte) : Statement (.andZpindy zz) :=
  statement_of_opcode _ 0x31#8 rfl rfl (Nat.le_of_ble_eq_true rfl) rfl
theorem andZpind (zz : Byte) : Statement (.andZpind zz) :=
  statement_of_opcode _ 0x32#8 rfl rfl (Nat.le_of_ble_eq_true rfl) rfl
theorem und33 : Statement .und33 :=
  statement_of_opcode _ 0x33#8 rfl rfl (Nat.le_of_ble_eq_true rfl) rfl
theorem bitZpx (zz : Byte) : Statement (.bitZpx zz) :=
  statement_of_opcode _ 0x34#8 rfl rfl (Nat.le_of_ble_eq_true rfl) rfl
theorem andZpx (zz : Byte) : Statement (.andZpx zz) :=
  statement_of_opcode _ 0x35#8 rfl rfl (Nat.le_of_ble_eq_true rfl) rfl
theorem rolZpx (zz : Byte) : Statement (.rolZpx zz) :=
  statement_of_opcode _ 0x36#8 rfl rfl (Nat.le_of_ble_eq_true rfl) rfl
theorem rmb3 (zz : Byte) : Statement (.rmb3 zz) :=
  statement_of_opcode _ 0x37#8 rfl rfl (Nat.le_of_ble_eq_true rfl) rfl
theorem sec : Statement .sec :=
  statement_of_opcode _ 0x38#8 rfl rfl (Nat.le_of_ble_eq_true rfl) rfl
theorem andAbsy (addr : Address) : Statement (.andAbsy addr) :=
  statement_of_opcode _ 0x39#8 rfl rfl (Nat.le_of_ble_eq_true rfl) rfl
theorem decAcc : Statement .decAcc :=
  statement_of_opcode _ 0x3A#8 rfl rfl (Nat.le_of_ble_eq_true rfl) rfl
theorem und3B : Statement .und3B :=
  statement_of_opcode _ 0x3B#8 rfl rfl (Nat.le_of_ble_eq_true rfl) rfl
theorem bitAbsx (addr : Address) : Statement (.bitAbsx addr) :=
  statement_of_opcode _ 0x3C#8 rfl rfl (Nat.le_of_ble_eq_true rfl) rfl
theorem andAbsx (addr : Address) : Statement (.andAbsx addr) :=
  statement_of_opcode _ 0x3D#8 rfl rfl (Nat.le_of_ble_eq_true rfl) rfl
theorem rolAbsx (addr : Address) : Statement (.rolAbsx addr) :=
  statement_of_opcode _ 0x3E#8 rfl rfl (Nat.le_of_ble_eq_true rfl) rfl
theorem bbr3 (zz : Byte) (off : Byte) : Statement (.bbr3 zz off) :=
  statement_of_opcode _ 0x3F#8 rfl rfl (Nat.le_of_ble_eq_true rfl) rfl
theorem rti : Statement .rti :=
  statement_of_opcode _ 0x40#8 rfl rfl (Nat.le_of_ble_eq_true rfl) rfl
theorem eorZpindx (zz : Byte) : Statement (.eorZpindx zz) :=
  statement_of_opcode _ 0x41#8 rfl rfl (Nat.le_of_ble_eq_true rfl) rfl
theorem und42 : Statement .und42 :=
  statement_of_opcode _ 0x42#8 rfl rfl (Nat.le_of_ble_eq_true rfl) rfl
theorem und43 : Statement .und43 :=
  statement_of_opcode _ 0x43#8 rfl rfl (Nat.le_of_ble_eq_true rfl) rfl
theorem und44 : Statement .und44 :=
  statement_of_opcode _ 0x44#8 rfl rfl (Nat.le_of_ble_eq_true rfl) rfl
theorem eorZp (zz : Byte) : Statement (.eorZp zz) :=
  statement_of_opcode _ 0x45#8 rfl rfl (Nat.le_of_ble_eq_true rfl) rfl
theorem lsrZp (zz : Byte) : Statement (.lsrZp zz) :=
  statement_of_opcode _ 0x46#8 rfl rfl (Nat.le_of_ble_eq_true rfl) rfl
theorem rmb4 (zz : Byte) : Statement (.rmb4 zz) :=
  statement_of_opcode _ 0x47#8 rfl rfl (Nat.le_of_ble_eq_true rfl) rfl
theorem pha : Statement .pha :=
  statement_of_opcode _ 0x48#8 rfl rfl (Nat.le_of_ble_eq_true rfl) rfl
theorem eorImm (nn : Byte) : Statement (.eorImm nn) :=
  statement_of_opcode _ 0x49#8 rfl rfl (Nat.le_of_ble_eq_true rfl) rfl
theorem lsrAcc : Statement .lsrAcc :=
  statement_of_opcode _ 0x4A#8 rfl rfl (Nat.le_of_ble_eq_true rfl) rfl
theorem und4B : Statement .und4B :=
  statement_of_opcode _ 0x4B#8 rfl rfl (Nat.le_of_ble_eq_true rfl) rfl
theorem jmpAbs (addr : Address) : Statement (.jmpAbs addr) :=
  statement_of_opcode _ 0x4C#8 rfl rfl (Nat.le_of_ble_eq_true rfl) rfl
theorem eorAbs (addr : Address) : Statement (.eorAbs addr) :=
  statement_of_opcode _ 0x4D#8 rfl rfl (Nat.le_of_ble_eq_true rfl) rfl
theorem lsrAbs (addr : Address) : Statement (.lsrAbs addr) :=
  statement_of_opcode _ 0x4E#8 rfl rfl (Nat.le_of_ble_eq_true rfl) rfl
theorem bbr4 (zz : Byte) (off : Byte) : Statement (.bbr4 zz off) :=
  statement_of_opcode _ 0x4F#8 rfl rfl (Nat.le_of_ble_eq_true rfl) rfl
theorem bvc (off : Byte) : Statement (.bvc off) :=
  statement_of_opcode _ 0x50#8 rfl rfl (Nat.le_of_ble_eq_true rfl) rfl
theorem eorZpindy (zz : Byte) : Statement (.eorZpindy zz) :=
  statement_of_opcode _ 0x51#8 rfl rfl (Nat.le_of_ble_eq_true rfl) rfl
theorem eorZpind (zz : Byte) : Statement (.eorZpind zz) :=
  statement_of_opcode _ 0x52#8 rfl rfl (Nat.le_of_ble_eq_true rfl) rfl
theorem und53 : Statement .und53 :=
  statement_of_opcode _ 0x53#8 rfl rfl (Nat.le_of_ble_eq_true rfl) rfl
theorem und54 : Statement .und54 :=
  statement_of_opcode _ 0x54#8 rfl rfl (Nat.le_of_ble_eq_true rfl) rfl
theorem eorZpx (zz : Byte) : Statement (.eorZpx zz) :=
  statement_of_opcode _ 0x55#8 rfl rfl (Nat.le_of_ble_eq_true rfl) rfl
theorem lsrZpx (zz : Byte) : Statement (.lsrZpx zz) :=
  statement_of_opcode _ 0x56#8 rfl rfl (Nat.le_of_ble_eq_true rfl) rfl
theorem rmb5 (zz : Byte) : Statement (.rmb5 zz) :=
  statement_of_opcode _ 0x57#8 rfl rfl (Nat.le_of_ble_eq_true rfl) rfl
theorem cli : Statement .cli :=
  statement_of_opcode _ 0x58#8 rfl rfl (Nat.le_of_ble_eq_true rfl) rfl
theorem eorAbsy (addr : Address) : Statement (.eorAbsy addr) :=
  statement_of_opcode _ 0x59#8 rfl rfl (Nat.le_of_ble_eq_true rfl) rfl
theorem phy : Statement .phy :=
  statement_of_opcode _ 0x5A#8 rfl rfl (Nat.le_of_ble_eq_true rfl) rfl
theorem und5B : Statement .und5B :=
  statement_of_opcode _ 0x5B#8 rfl rfl (Nat.le_of_ble_eq_true rfl) rfl
theorem und5C : Statement .und5C :=
  statement_of_opcode _ 0x5C#8 rfl rfl (Nat.le_of_ble_eq_true rfl) rfl
theorem eorAbsx (addr : Address) : Statement (.eorAbsx addr) :=
  statement_of_opcode _ 0x5D#8 rfl rfl (Nat.le_of_ble_eq_true rfl) rfl
theorem lsrAbsx (addr : Address) : Statement (.lsrAbsx addr) :=
  statement_of_opcode _ 0x5E#8 rfl rfl (Nat.le_of_ble_eq_true rfl) rfl
theorem bbr5 (zz : Byte) (off : Byte) : Statement (.bbr5 zz off) :=
  statement_of_opcode _ 0x5F#8 rfl rfl (Nat.le_of_ble_eq_true rfl) rfl
theorem rts : Statement .rts :=
  statement_of_opcode _ 0x60#8 rfl rfl (Nat.le_of_ble_eq_true rfl) rfl
theorem adcZpindx (zz : Byte) : Statement (.adcZpindx zz) :=
  statement_of_opcode _ 0x61#8 rfl rfl (Nat.le_of_ble_eq_true rfl) rfl
theorem und62 : Statement .und62 :=
  statement_of_opcode _ 0x62#8 rfl rfl (Nat.le_of_ble_eq_true rfl) rfl
theorem und63 : Statement .und63 :=
  statement_of_opcode _ 0x63#8 rfl rfl (Nat.le_of_ble_eq_true rfl) rfl
theorem stzZp (zz : Byte) : Statement (.stzZp zz) :=
  statement_of_opcode _ 0x64#8 rfl rfl (Nat.le_of_ble_eq_true rfl) rfl
theorem adcZp (zz : Byte) : Statement (.adcZp zz) :=
  statement_of_opcode _ 0x65#8 rfl rfl (Nat.le_of_ble_eq_true rfl) rfl
theorem rorZp (zz : Byte) : Statement (.rorZp zz) :=
  statement_of_opcode _ 0x66#8 rfl rfl (Nat.le_of_ble_eq_true rfl) rfl
theorem rmb6 (zz : Byte) : Statement (.rmb6 zz) :=
  statement_of_opcode _ 0x67#8 rfl rfl (Nat.le_of_ble_eq_true rfl) rfl
theorem pla : Statement .pla :=
  statement_of_opcode _ 0x68#8 rfl rfl (Nat.le_of_ble_eq_true rfl) rfl
theorem adcImm (nn : Byte) : Statement (.adcImm nn) :=
  statement_of_opcode _ 0x69#8 rfl rfl (Nat.le_of_ble_eq_true rfl) rfl
theorem rorAcc : Statement .rorAcc :=
  statement_of_opcode _ 0x6A#8 rfl rfl (Nat.le_of_ble_eq_true rfl) rfl
theorem und6B : Statement .und6B :=
  statement_of_opcode _ 0x6B#8 rfl rfl (Nat.le_of_ble_eq_true rfl) rfl
theorem jmpInd (addr : Address) : Statement (.jmpInd addr) :=
  statement_of_opcode _ 0x6C#8 rfl rfl (Nat.le_of_ble_eq_true rfl) rfl
theorem adcAbs (addr : Address) : Statement (.adcAbs addr) :=
  statement_of_opcode _ 0x6D#8 rfl rfl (Nat.le_of_ble_eq_true rfl) rfl
theorem rorAbs (addr : Address) : Statement (.rorAbs addr) :=
  statement_of_opcode _ 0x6E#8 rfl rfl (Nat.le_of_ble_eq_true rfl) rfl
theorem bbr6 (zz : Byte) (off : Byte) : Statement (.bbr6 zz off) :=
  statement_of_opcode _ 0x6F#8 rfl rfl (Nat.le_of_ble_eq_true rfl) rfl
theorem bvs (off : Byte) : Statement (.bvs off) :=
  statement_of_opcode _ 0x70#8 rfl rfl (Nat.le_of_ble_eq_true rfl) rfl
theorem adcZpindy (zz : Byte) : Statement (.adcZpindy zz) :=
  statement_of_opcode _ 0x71#8 rfl rfl (Nat.le_of_ble_eq_true rfl) rfl
theorem adcZpind (zz : Byte) : Statement (.adcZpind zz) :=
  statement_of_opcode _ 0x72#8 rfl rfl (Nat.le_of_ble_eq_true rfl) rfl
theorem und73 : Statement .und73 :=
  statement_of_opcode _ 0x73#8 rfl rfl (Nat.le_of_ble_eq_true rfl) rfl
theorem stzZpx (zz : Byte) : Statement (.stzZpx zz) :=
  statement_of_opcode _ 0x74#8 rfl rfl (Nat.le_of_ble_eq_true rfl) rfl
theorem adcZpx (zz : Byte) : Statement (.adcZpx zz) :=
  statement_of_opcode _ 0x75#8 rfl rfl (Nat.le_of_ble_eq_true rfl) rfl
theorem rorZpx (zz : Byte) : Statement (.rorZpx zz) :=
  statement_of_opcode _ 0x76#8 rfl rfl (Nat.le_of_ble_eq_true rfl) rfl
theorem rmb7 (zz : Byte) : Statement (.rmb7 zz) :=
  statement_of_opcode _ 0x77#8 rfl rfl (Nat.le_of_ble_eq_true rfl) rfl
theorem sei : Statement .sei :=
  statement_of_opcode _ 0x78#8 rfl rfl (Nat.le_of_ble_eq_true rfl) rfl
theorem adcAbsy (addr : Address) : Statement (.adcAbsy addr) :=
  statement_of_opcode _ 0x79#8 rfl rfl (Nat.le_of_ble_eq_true rfl) rfl
theorem ply : Statement .ply :=
  statement_of_opcode _ 0x7A#8 rfl rfl (Nat.le_of_ble_eq_true rfl) rfl
theorem und7B : Statement .und7B :=
  statement_of_opcode _ 0x7B#8 rfl rfl (Nat.le_of_ble_eq_true rfl) rfl
theorem jmpAbsindx (addr : Address) : Statement (.jmpAbsindx addr) :=
  statement_of_opcode _ 0x7C#8 rfl rfl (Nat.le_of_ble_eq_true rfl) rfl
theorem adcAbsx (addr : Address) : Statement (.adcAbsx addr) :=
  statement_of_opcode _ 0x7D#8 rfl rfl (Nat.le_of_ble_eq_true rfl) rfl
theorem rorAbsx (addr : Address) : Statement (.rorAbsx addr) :=
  statement_of_opcode _ 0x7E#8 rfl rfl (Nat.le_of_ble_eq_true rfl) rfl
theorem bbr7 (zz : Byte) (off : Byte) : Statement (.bbr7 zz off) :=
  statement_of_opcode _ 0x7F#8 rfl rfl (Nat.le_of_ble_eq_true rfl) rfl
theorem bra (off : Byte) : Statement (.bra off) :=
  statement_of_opcode _ 0x80#8 rfl rfl (Nat.le_of_ble_eq_true rfl) rfl
theorem staZpindx (zz : Byte) : Statement (.staZpindx zz) :=
  statement_of_opcode _ 0x81#8 rfl rfl (Nat.le_of_ble_eq_true rfl) rfl
theorem und82 : Statement .und82 :=
  statement_of_opcode _ 0x82#8 rfl rfl (Nat.le_of_ble_eq_true rfl) rfl
theorem und83 : Statement .und83 :=
  statement_of_opcode _ 0x83#8 rfl rfl (Nat.le_of_ble_eq_true rfl) rfl
theorem styZp (zz : Byte) : Statement (.styZp zz) :=
  statement_of_opcode _ 0x84#8 rfl rfl (Nat.le_of_ble_eq_true rfl) rfl
theorem staZp (zz : Byte) : Statement (.staZp zz) :=
  statement_of_opcode _ 0x85#8 rfl rfl (Nat.le_of_ble_eq_true rfl) rfl
theorem stxZp (zz : Byte) : Statement (.stxZp zz) :=
  statement_of_opcode _ 0x86#8 rfl rfl (Nat.le_of_ble_eq_true rfl) rfl
theorem smb0 (zz : Byte) : Statement (.smb0 zz) :=
  statement_of_opcode _ 0x87#8 rfl rfl (Nat.le_of_ble_eq_true rfl) rfl
theorem dey : Statement .dey :=
  statement_of_opcode _ 0x88#8 rfl rfl (Nat.le_of_ble_eq_true rfl) rfl
theorem bitImm (nn : Byte) : Statement (.bitImm nn) :=
  statement_of_opcode _ 0x89#8 rfl rfl (Nat.le_of_ble_eq_true rfl) rfl
theorem txa : Statement .txa :=
  statement_of_opcode _ 0x8A#8 rfl rfl (Nat.le_of_ble_eq_true rfl) rfl
theorem und8B : Statement .und8B :=
  statement_of_opcode _ 0x8B#8 rfl rfl (Nat.le_of_ble_eq_true rfl) rfl
theorem styAbs (addr : Address) : Statement (.styAbs addr) :=
  statement_of_opcode _ 0x8C#8 rfl rfl (Nat.le_of_ble_eq_true rfl) rfl
theorem staAbs (addr : Address) : Statement (.staAbs addr) :=
  statement_of_opcode _ 0x8D#8 rfl rfl (Nat.le_of_ble_eq_true rfl) rfl
theorem stxAbs (addr : Address) : Statement (.stxAbs addr) :=
  statement_of_opcode _ 0x8E#8 rfl rfl (Nat.le_of_ble_eq_true rfl) rfl
theorem bbs0 (zz : Byte) (off : Byte) : Statement (.bbs0 zz off) :=
  statement_of_opcode _ 0x8F#8 rfl rfl (Nat.le_of_ble_eq_true rfl) rfl
theorem bcc (off : Byte) : Statement (.bcc off) :=
  statement_of_opcode _ 0x90#8 rfl rfl (Nat.le_of_ble_eq_true rfl) rfl
theorem staZpindy (zz : Byte) : Statement (.staZpindy zz) :=
  statement_of_opcode _ 0x91#8 rfl rfl (Nat.le_of_ble_eq_true rfl) rfl
theorem staZpind (zz : Byte) : Statement (.staZpind zz) :=
  statement_of_opcode _ 0x92#8 rfl rfl (Nat.le_of_ble_eq_true rfl) rfl
theorem und93 : Statement .und93 :=
  statement_of_opcode _ 0x93#8 rfl rfl (Nat.le_of_ble_eq_true rfl) rfl
theorem styZpx (zz : Byte) : Statement (.styZpx zz) :=
  statement_of_opcode _ 0x94#8 rfl rfl (Nat.le_of_ble_eq_true rfl) rfl
theorem staZpx (zz : Byte) : Statement (.staZpx zz) :=
  statement_of_opcode _ 0x95#8 rfl rfl (Nat.le_of_ble_eq_true rfl) rfl
theorem stxZpy (zz : Byte) : Statement (.stxZpy zz) :=
  statement_of_opcode _ 0x96#8 rfl rfl (Nat.le_of_ble_eq_true rfl) rfl
theorem smb1 (zz : Byte) : Statement (.smb1 zz) :=
  statement_of_opcode _ 0x97#8 rfl rfl (Nat.le_of_ble_eq_true rfl) rfl
theorem tya : Statement .tya :=
  statement_of_opcode _ 0x98#8 rfl rfl (Nat.le_of_ble_eq_true rfl) rfl
theorem staAbsy (addr : Address) : Statement (.staAbsy addr) :=
  statement_of_opcode _ 0x99#8 rfl rfl (Nat.le_of_ble_eq_true rfl) rfl
theorem txs : Statement .txs :=
  statement_of_opcode _ 0x9A#8 rfl rfl (Nat.le_of_ble_eq_true rfl) rfl
theorem und9B : Statement .und9B :=
  statement_of_opcode _ 0x9B#8 rfl rfl (Nat.le_of_ble_eq_true rfl) rfl
theorem stzAbs (addr : Address) : Statement (.stzAbs addr) :=
  statement_of_opcode _ 0x9C#8 rfl rfl (Nat.le_of_ble_eq_true rfl) rfl
theorem staAbsx (addr : Address) : Statement (.staAbsx addr) :=
  statement_of_opcode _ 0x9D#8 rfl rfl (Nat.le_of_ble_eq_true rfl) rfl
theorem stzAbsx (addr : Address) : Statement (.stzAbsx addr) :=
  statement_of_opcode _ 0x9E#8 rfl rfl (Nat.le_of_ble_eq_true rfl) rfl
theorem bbs1 (zz : Byte) (off : Byte) : Statement (.bbs1 zz off) :=
  statement_of_opcode _ 0x9F#8 rfl rfl (Nat.le_of_ble_eq_true rfl) rfl
theorem ldyImm (nn : Byte) : Statement (.ldyImm nn) :=
  statement_of_opcode _ 0xA0#8 rfl rfl (Nat.le_of_ble_eq_true rfl) rfl
theorem ldaZpindx (zz : Byte) : Statement (.ldaZpindx zz) :=
  statement_of_opcode _ 0xA1#8 rfl rfl (Nat.le_of_ble_eq_true rfl) rfl
theorem ldxImm (nn : Byte) : Statement (.ldxImm nn) :=
  statement_of_opcode _ 0xA2#8 rfl rfl (Nat.le_of_ble_eq_true rfl) rfl
theorem undA3 : Statement .undA3 :=
  statement_of_opcode _ 0xA3#8 rfl rfl (Nat.le_of_ble_eq_true rfl) rfl
theorem ldyZp (zz : Byte) : Statement (.ldyZp zz) :=
  statement_of_opcode _ 0xA4#8 rfl rfl (Nat.le_of_ble_eq_true rfl) rfl
theorem ldaZp (zz : Byte) : Statement (.ldaZp zz) :=
  statement_of_opcode _ 0xA5#8 rfl rfl (Nat.le_of_ble_eq_true rfl) rfl
theorem ldxZp (zz : Byte) : Statement (.ldxZp zz) :=
  statement_of_opcode _ 0xA6#8 rfl rfl (Nat.le_of_ble_eq_true rfl) rfl
theorem smb2 (zz : Byte) : Statement (.smb2 zz) :=
  statement_of_opcode _ 0xA7#8 rfl rfl (Nat.le_of_ble_eq_true rfl) rfl
theorem tay : Statement .tay :=
  statement_of_opcode _ 0xA8#8 rfl rfl (Nat.le_of_ble_eq_true rfl) rfl
theorem ldaImm (nn : Byte) : Statement (.ldaImm nn) :=
  statement_of_opcode _ 0xA9#8 rfl rfl (Nat.le_of_ble_eq_true rfl) rfl
theorem tax : Statement .tax :=
  statement_of_opcode _ 0xAA#8 rfl rfl (Nat.le_of_ble_eq_true rfl) rfl
theorem undAB : Statement .undAB :=
  statement_of_opcode _ 0xAB#8 rfl rfl (Nat.le_of_ble_eq_true rfl) rfl
theorem ldyAbs (addr : Address) : Statement (.ldyAbs addr) :=
  statement_of_opcode _ 0xAC#8 rfl rfl (Nat.le_of_ble_eq_true rfl) rfl
theorem ldaAbs (addr : Address) : Statement (.ldaAbs addr) :=
  statement_of_opcode _ 0xAD#8 rfl rfl (Nat.le_of_ble_eq_true rfl) rfl
theorem ldxAbs (addr : Address) : Statement (.ldxAbs addr) :=
  statement_of_opcode _ 0xAE#8 rfl rfl (Nat.le_of_ble_eq_true rfl) rfl
theorem bbs2 (zz : Byte) (off : Byte) : Statement (.bbs2 zz off) :=
  statement_of_opcode _ 0xAF#8 rfl rfl (Nat.le_of_ble_eq_true rfl) rfl
theorem bcs (off : Byte) : Statement (.bcs off) :=
  statement_of_opcode _ 0xB0#8 rfl rfl (Nat.le_of_ble_eq_true rfl) rfl
theorem ldaZpindy (zz : Byte) : Statement (.ldaZpindy zz) :=
  statement_of_opcode _ 0xB1#8 rfl rfl (Nat.le_of_ble_eq_true rfl) rfl
theorem ldaZpind (zz : Byte) : Statement (.ldaZpind zz) :=
  statement_of_opcode _ 0xB2#8 rfl rfl (Nat.le_of_ble_eq_true rfl) rfl
theorem undB3 : Statement .undB3 :=
  statement_of_opcode _ 0xB3#8 rfl rfl (Nat.le_of_ble_eq_true rfl) rfl
theorem ldyZpx (zz : Byte) : Statement (.ldyZpx zz) :=
  statement_of_opcode _ 0xB4#8 rfl rfl (Nat.le_of_ble_eq_true rfl) rfl
theorem ldaZpx (zz : Byte) : Statement (.ldaZpx zz) :=
  statement_of_opcode _ 0xB5#8 rfl rfl (Nat.le_of_ble_eq_true rfl) rfl
theorem ldxZpy (zz : Byte) : Statement (.ldxZpy zz) :=
  statement_of_opcode _ 0xB6#8 rfl rfl (Nat.le_of_ble_eq_true rfl) rfl
theorem smb3 (zz : Byte) : Statement (.smb3 zz) :=
  statement_of_opcode _ 0xB7#8 rfl rfl (Nat.le_of_ble_eq_true rfl) rfl
theorem clv : Statement .clv :=
  statement_of_opcode _ 0xB8#8 rfl rfl (Nat.le_of_ble_eq_true rfl) rfl
theorem ldaAbsy (addr : Address) : Statement (.ldaAbsy addr) :=
  statement_of_opcode _ 0xB9#8 rfl rfl (Nat.le_of_ble_eq_true rfl) rfl
theorem tsx : Statement .tsx :=
  statement_of_opcode _ 0xBA#8 rfl rfl (Nat.le_of_ble_eq_true rfl) rfl
theorem undBB : Statement .undBB :=
  statement_of_opcode _ 0xBB#8 rfl rfl (Nat.le_of_ble_eq_true rfl) rfl
theorem ldyAbsx (addr : Address) : Statement (.ldyAbsx addr) :=
  statement_of_opcode _ 0xBC#8 rfl rfl (Nat.le_of_ble_eq_true rfl) rfl
theorem ldaAbsx (addr : Address) : Statement (.ldaAbsx addr) :=
  statement_of_opcode _ 0xBD#8 rfl rfl (Nat.le_of_ble_eq_true rfl) rfl
theorem ldxAbsy (addr : Address) : Statement (.ldxAbsy addr) :=
  statement_of_opcode _ 0xBE#8 rfl rfl (Nat.le_of_ble_eq_true rfl) rfl
theorem bbs3 (zz : Byte) (off : Byte) : Statement (.bbs3 zz off) :=
  statement_of_opcode _ 0xBF#8 rfl rfl (Nat.le_of_ble_eq_true rfl) rfl
theorem cpyImm (nn : Byte) : Statement (.cpyImm nn) :=
  statement_of_opcode _ 0xC0#8 rfl rfl (Nat.le_of_ble_eq_true rfl) rfl
theorem cmpZpindx (zz : Byte) : Statement (.cmpZpindx zz) :=
  statement_of_opcode _ 0xC1#8 rfl rfl (Nat.le_of_ble_eq_true rfl) rfl
theorem undC2 : Statement .undC2 :=
  statement_of_opcode _ 0xC2#8 rfl rfl (Nat.le_of_ble_eq_true rfl) rfl
theorem undC3 : Statement .undC3 :=
  statement_of_opcode _ 0xC3#8 rfl rfl (Nat.le_of_ble_eq_true rfl) rfl
theorem cpyZp (zz : Byte) : Statement (.cpyZp zz) :=
  statement_of_opcode _ 0xC4#8 rfl rfl (Nat.le_of_ble_eq_true rfl) rfl
theorem cmpZp (zz : Byte) : Statement (.cmpZp zz) :=
  statement_of_opcode _ 0xC5#8 rfl rfl (Nat.le_of_ble_eq_true rfl) rfl
theorem decZp (zz : Byte) : Statement (.decZp zz) :=
  statement_of_opcode _ 0xC6#8 rfl rfl (Nat.le_of_ble_eq_true rfl) rfl
theorem smb4 (zz : Byte) : Statement (.smb4 zz) :=
  statement_of_opcode _ 0xC7#8 rfl rfl (Nat.le_of_ble_eq_true rfl) rfl
theorem iny : Statement .iny :=
  statement_of_opcode _ 0xC8#8 rfl rfl (Nat.le_of_ble_eq_true rfl) rfl
theorem cmpImm (nn : Byte) : Statement (.cmpImm nn) :=
  statement_of_opcode _ 0xC9#8 rfl rfl (Nat.le_of_ble_eq_true rfl) rfl
theorem dex : Statement .dex :=
  statement_of_opcode _ 0xCA#8 rfl rfl (Nat.le_of_ble_eq_true rfl) rfl
theorem undCB : Statement .undCB :=
  statement_of_opcode _ 0xCB#8 rfl rfl (Nat.le_of_ble_eq_true rfl) rfl
theorem cpyAbs (addr : Address) : Statement (.cpyAbs addr) :=
  statement_of_opcode _ 0xCC#8 rfl rfl (Nat.le_of_ble_eq_true rfl) rfl
theorem cmpAbs (addr : Address) : Statement (.cmpAbs addr) :=
  statement_of_opcode _ 0xCD#8 rfl rfl (Nat.le_of_ble_eq_true rfl) rfl
theorem decAbs (addr : Address) : Statement (.decAbs addr) :=
  statement_of_opcode _ 0xCE#8 rfl rfl (Nat.le_of_ble_eq_true rfl) rfl
theorem bbs4 (zz : Byte) (off : Byte) : Statement (.bbs4 zz off) :=
  statement_of_opcode _ 0xCF#8 rfl rfl (Nat.le_of_ble_eq_true rfl) rfl
theorem bne (off : Byte) : Statement (.bne off) :=
  statement_of_opcode _ 0xD0#8 rfl rfl (Nat.le_of_ble_eq_true rfl) rfl
theorem cmpZpindy (zz : Byte) : Statement (.cmpZpindy zz) :=
  statement_of_opcode _ 0xD1#8 rfl rfl (Nat.le_of_ble_eq_true rfl) rfl
theorem cmpZpind (zz : Byte) : Statement (.cmpZpind zz) :=
  statement_of_opcode _ 0xD2#8 rfl rfl (Nat.le_of_ble_eq_true rfl) rfl
theorem undD3 : Statement .undD3 :=
  statement_of_opcode _ 0xD3#8 rfl rfl (Nat.le_of_ble_eq_true rfl) rfl
theorem undD4 : Statement .undD4 :=
  statement_of_opcode _ 0xD4#8 rfl rfl (Nat.le_of_ble_eq_true rfl) rfl
theorem cmpZpx (zz : Byte) : Statement (.cmpZpx zz) :=
  statement_of_opcode _ 0xD5#8 rfl rfl (Nat.le_of_ble_eq_true rfl) rfl
theorem decZpx (zz : Byte) : Statement (.decZpx zz) :=
  statement_of_opcode _ 0xD6#8 rfl rfl (Nat.le_of_ble_eq_true rfl) rfl
theorem smb5 (zz : Byte) : Statement (.smb5 zz) :=
  statement_of_opcode _ 0xD7#8 rfl rfl (Nat.le_of_ble_eq_true rfl) rfl
theorem cld : Statement .cld :=
  statement_of_opcode _ 0xD8#8 rfl rfl (Nat.le_of_ble_eq_true rfl) rfl
theorem cmpAbsy (addr : Address) : Statement (.cmpAbsy addr) :=
  statement_of_opcode _ 0xD9#8 rfl rfl (Nat.le_of_ble_eq_true rfl) rfl
theorem phx : Statement .phx :=
  statement_of_opcode _ 0xDA#8 rfl rfl (Nat.le_of_ble_eq_true rfl) rfl
theorem undDB : Statement .undDB :=
  statement_of_opcode _ 0xDB#8 rfl rfl (Nat.le_of_ble_eq_true rfl) rfl
theorem undDC : Statement .undDC :=
  statement_of_opcode _ 0xDC#8 rfl rfl (Nat.le_of_ble_eq_true rfl) rfl
theorem cmpAbsx (addr : Address) : Statement (.cmpAbsx addr) :=
  statement_of_opcode _ 0xDD#8 rfl rfl (Nat.le_of_ble_eq_true rfl) rfl
theorem decAbsx (addr : Address) : Statement (.decAbsx addr) :=
  statement_of_opcode _ 0xDE#8 rfl rfl (Nat.le_of_ble_eq_true rfl) rfl
theorem bbs5 (zz : Byte) (off : Byte) : Statement (.bbs5 zz off) :=
  statement_of_opcode _ 0xDF#8 rfl rfl (Nat.le_of_ble_eq_true rfl) rfl
theorem cpxImm (nn : Byte) : Statement (.cpxImm nn) :=
  statement_of_opcode _ 0xE0#8 rfl rfl (Nat.le_of_ble_eq_true rfl) rfl
theorem sbcZpindx (zz : Byte) : Statement (.sbcZpindx zz) :=
  statement_of_opcode _ 0xE1#8 rfl rfl (Nat.le_of_ble_eq_true rfl) rfl
theorem undE2 : Statement .undE2 :=
  statement_of_opcode _ 0xE2#8 rfl rfl (Nat.le_of_ble_eq_true rfl) rfl
theorem undE3 : Statement .undE3 :=
  statement_of_opcode _ 0xE3#8 rfl rfl (Nat.le_of_ble_eq_true rfl) rfl
theorem cpxZp (zz : Byte) : Statement (.cpxZp zz) :=
  statement_of_opcode _ 0xE4#8 rfl rfl (Nat.le_of_ble_eq_true rfl) rfl
theorem sbcZp (zz : Byte) : Statement (.sbcZp zz) :=
  statement_of_opcode _ 0xE5#8 rfl rfl (Nat.le_of_ble_eq_true rfl) rfl
theorem incZp (zz : Byte) : Statement (.incZp zz) :=
  statement_of_opcode _ 0xE6#8 rfl rfl (Nat.le_of_ble_eq_true rfl) rfl
theorem smb6 (zz : Byte) : Statement (.smb6 zz) :=
  statement_of_opcode _ 0xE7#8 rfl rfl (Nat.le_of_ble_eq_true rfl) rfl
theorem inx : Statement .inx :=
  statement_of_opcode _ 0xE8#8 rfl rfl (Nat.le_of_ble_eq_true rfl) rfl
theorem sbcImm (nn : Byte) : Statement (.sbcImm nn) :=
  statement_of_opcode _ 0xE9#8 rfl rfl (Nat.le_of_ble_eq_true rfl) rfl
theorem nop : Statement .nop :=
  statement_of_opcode _ 0xEA#8 rfl rfl (Nat.le_of_ble_eq_true rfl) rfl
theorem undEB : Statement .undEB :=
  statement_of_opcode _ 0xEB#8 rfl rfl (Nat.le_of_ble_eq_true rfl) rfl
theorem cpxAbs (addr : Address) : Statement (.cpxAbs addr) :=
  statement_of_opcode _ 0xEC#8 rfl rfl (Nat.le_of_ble_eq_true rfl) rfl
theorem sbcAbs (addr : Address) : Statement (.sbcAbs addr) :=
  statement_of_opcode _ 0xED#8 rfl rfl (Nat.le_of_ble_eq_true rfl) rfl
theorem incAbs (addr : Address) : Statement (.incAbs addr) :=
  statement_of_opcode _ 0xEE#8 rfl rfl (Nat.le_of_ble_eq_true rfl) rfl
theorem bbs6 (zz : Byte) (off : Byte) : Statement (.bbs6 zz off) :=
  statement_of_opcode _ 0xEF#8 rfl rfl (Nat.le_of_ble_eq_true rfl) rfl
theorem beq (off : Byte) : Statement (.beq off) :=
  statement_of_opcode _ 0xF0#8 rfl rfl (Nat.le_of_ble_eq_true rfl) rfl
theorem sbcZpindy (zz : Byte) : Statement (.sbcZpindy zz) :=
  statement_of_opcode _ 0xF1#8 rfl rfl (Nat.le_of_ble_eq_true rfl) rfl
theorem sbcZpind (zz : Byte) : Statement (.sbcZpind zz) :=
  statement_of_opcode _ 0xF2#8 rfl rfl (Nat.le_of_ble_eq_true rfl) rfl
theorem undF3 : Statement .undF3 :=
  statement_of_opcode _ 0xF3#8 rfl rfl (Nat.le_of_ble_eq_true rfl) rfl
theorem undF4 : Statement .undF4 :=
  statement_of_opcode _ 0xF4#8 rfl rfl (Nat.le_of_ble_eq_true rfl) rfl
theorem sbcZpx (zz : Byte) : Statement (.sbcZpx zz) :=
  statement_of_opcode _ 0xF5#8 rfl rfl (Nat.le_of_ble_eq_true rfl) rfl
theorem incZpx (zz : Byte) : Statement (.incZpx zz) :=
  statement_of_opcode _ 0xF6#8 rfl rfl (Nat.le_of_ble_eq_true rfl) rfl
theorem smb7 (zz : Byte) : Statement (.smb7 zz) :=
  statement_of_opcode _ 0xF7#8 rfl rfl (Nat.le_of_ble_eq_true rfl) rfl
theorem sed : Statement .sed :=
  statement_of_opcode _ 0xF8#8 rfl rfl (Nat.le_of_ble_eq_true rfl) rfl
theorem sbcAbsy (addr : Address) : Statement (.sbcAbsy addr) :=
  statement_of_opcode _ 0xF9#8 rfl rfl (Nat.le_of_ble_eq_true rfl) rfl
theorem plx : Statement .plx :=
  statement_of_opcode _ 0xFA#8 rfl rfl (Nat.le_of_ble_eq_true rfl) rfl
theorem undFB : Statement .undFB :=
  statement_of_opcode _ 0xFB#8 rfl rfl (Nat.le_of_ble_eq_true rfl) rfl
theorem undFC : Statement .undFC :=
  statement_of_opcode _ 0xFC#8 rfl rfl (Nat.le_of_ble_eq_true rfl) rfl
theorem sbcAbsx (addr : Address) : Statement (.sbcAbsx addr) :=
  statement_of_opcode _ 0xFD#8 rfl rfl (Nat.le_of_ble_eq_true rfl) rfl
theorem incAbsx (addr : Address) : Statement (.incAbsx addr) :=
  statement_of_opcode _ 0xFE#8 rfl rfl (Nat.le_of_ble_eq_true rfl) rfl
theorem bbs7 (zz : Byte) (off : Byte) : Statement (.bbs7 zz off) :=
  statement_of_opcode _ 0xFF#8 rfl rfl (Nat.le_of_ble_eq_true rfl) rfl

end Sys2Proof.Laws.TableAgreement
end

