-- ==== Sys2Proof/Tests/Slice0.lean ====
section
/-! SUPPORT. Small tests. Every expected value is one of spec/95_test_vectors.md (named in the docstring), or an encoding of
30_encoding.md. -/

namespace Sys2Proof.Tests
open Sys2Proof Sys2Proof.Machine

/-- The memory that holds these cells over nothing listed. -/
def cellsOf : List (Address × Byte) → Memory
  | [] => Memory.empty
  | (a, v) :: rest => (cellsOf rest).write a v

/-- The six flags `N V D I Z C`, written as six binary digits in that order. -/
def nvdizc (k : Nat) : Flags := ⟨k.testBit 5, k.testBit 4, k.testBit 3, k.testBit 2, k.testBit 1, k.testBit 0⟩

/-- `B0` of 95_test_vectors.md with its instruction's bytes at `PC` and these memory cells. -/
def b0 (pc : Address) (code : List Byte) (cells : List (Address × Byte)) : State where
  pc := pc
  a := 0x00#8
  x := 0x00#8
  y := 0x00#8
  sp := 0xFF#8
  flags := nvdizc 0b000110
  cyc := 0#64
  depth := 0
  mem := cellsOf (((List.range code.length).map fun k => (pc + BitVec.ofNat 16 k, code.getD k 0#8)) ++ cells)
  bus := []

/-- One `Step()` completes and `p` holds of the state it leaves. -/
def after (s : State) (p : State → Bool) : Bool :=
  match step s with
  | .next t => p t
  | .fault _ => false
  | .refused _ => false

/-- The transactions on the bus, in order: a read (`true`) or a write, and its address. -/
def transactions (s : State) : List (Bool × Address) :=
  s.bus.map fun b =>
    match b with
    | .read a _ => (true, a)
    | .write a _ => (false, a)

/-! ### Decoding: every row of the table of rule R64, with the operand bytes `34`, `12` -/

/-- Opcodes `0x00` to `0x0F` (rule R64, the encodings of rules R60 to R63). -/
theorem test_decode_row_0 :
    [(16, 0x3400), (16, 0x3401), (16, 0x3402), (8, 0x03), (16, 0x3404), (16, 0x3405), (16, 0x3406), (16, 0x3407),
      (8, 0x08), (16, 0x3409), (8, 0x0A), (8, 0x0B), (24, 0x12340C), (24, 0x12340D), (24, 0x12340E), (24, 0x12340F)].map (fun p => decodeTableWord p.1 p.2) =
    [.brk, .oraZpindx 0x34#8, .und02, .und03, .tsbZp 0x34#8, .oraZp 0x34#8, .aslZp 0x34#8, .rmb0 0x34#8, .php,
      .oraImm 0x34#8, .aslAcc, .und0B, .tsbAbs 0x1234#16, .oraAbs 0x1234#16, .aslAbs 0x1234#16, .bbr0 0x34#8 0x12#8].map some := by decide

/-- Opcodes `0x10` to `0x1F` (rule R64, the encodings of rules R60 to R63). -/
theorem test_decode_row_1 :
    [(16, 0x3410), (16, 0x3411), (16, 0x3412), (8, 0x13), (16, 0x3414), (16, 0x3415), (16, 0x3416), (16, 0x3417),
      (8, 0x18), (24, 0x123419), (8, 0x1A), (8, 0x1B), (24, 0x12341C), (24, 0x12341D), (24, 0x12341E),
      (24, 0x12341F)].map (fun p => decodeTableWord p.1 p.2) =
    [.bpl 0x34#8, .oraZpindy 0x34#8, .oraZpind 0x34#8, .und13, .trbZp 0x34#8, .oraZpx 0x34#8, .aslZpx 0x34#8,
      .rmb1 0x34#8, .clc, .oraAbsy 0x1234#16, .incAcc, .und1B, .trbAbs 0x1234#16, .oraAbsx 0x1234#16,
      .aslAbsx 0x1234#16, .bbr1 0x34#8 0x12#8].map some := by decide

/-- Opcodes `0x20` to `0x2F` (rule R64, the encodings of rules R60 to R63). -/
theorem test_decode_row_2 :
    [(24, 0x123420), (16, 0x3421), (16, 0x3422), (8, 0x23), (16, 0x3424), (16, 0x3425), (16, 0x3426),
      (16, 0x3427), (8, 0x28), (16, 0x3429), (8, 0x2A), (8, 0x2B), (24, 0x12342C), (24, 0x12342D), (24, 0x12342E),
      (24, 0x12342F)].map (fun p => decodeTableWord p.1 p.2) =
    [.jsrAbs 0x1234#16, .andZpindx 0x34#8, .und22, .und23, .bitZp 0x34#8, .andZp 0x34#8, .rolZp 0x34#8,
      .rmb2 0x34#8, .plp, .andImm 0x34#8, .rolAcc, .und2B, .bitAbs 0x1234#16, .andAbs 0x1234#16, .rolAbs 0x1234#16,
      .bbr2 0x34#8 0x12#8].map some := by decide

/-- Opcodes `0x30` to `0x3F` (rule R64, the encodings of rules R60 to R63). -/
theorem test_decode_row_3 :
    [(16, 0x3430), (16, 0x3431), (16, 0x3432), (8, 0x33), (16, 0x3434), (16, 0x3435), (16, 0x3436), (16, 0x3437),
      (8, 0x38), (24, 0x123439), (8, 0x3A), (8, 0x3B), (24, 0x12343C), (24, 0x12343D), (24, 0x12343E),
      (24, 0x12343F)].map (fun p => decodeTableWord p.1 p.2) =
    [.bmi 0x34#8, .andZpindy 0x34#8, .andZpind 0x34#8, .und33, .bitZpx 0x34#8, .andZpx 0x34#8, .rolZpx 0x34#8,
      .rmb3 0x34#8, .sec, .andAbsy 0x1234#16, .decAcc, .und3B, .bitAbsx 0x1234#16, .andAbsx 0x1234#16,
      .rolAbsx 0x1234#16, .bbr3 0x34#8 0x12#8].map some := by decide

/-- Opcodes `0x40` to `0x4F` (rule R64, the encodings of rules R60 to R63). -/
theorem test_decode_row_4 :
    [(8, 0x40), (16, 0x3441), (16, 0x3442), (8, 0x43), (16, 0x3444), (16, 0x3445), (16, 0x3446), (16, 0x3447),
      (8, 0x48), (16, 0x3449), (8, 0x4A), (8, 0x4B), (24, 0x12344C), (24, 0x12344D), (24, 0x12344E), (24, 0x12344F)].map (fun p => decodeTableWord p.1 p.2) =
    [.rti, .eorZpindx 0x34#8, .und42, .und43, .und44, .eorZp 0x34#8, .lsrZp 0x34#8, .rmb4 0x34#8, .pha,
      .eorImm 0x34#8, .lsrAcc, .und4B, .jmpAbs 0x1234#16, .eorAbs 0x1234#16, .lsrAbs 0x1234#16, .bbr4 0x34#8 0x12#8].map some := by decide

/-- Opcodes `0x50` to `0x5F` (rule R64, the encodings of rules R60 to R63). -/
theorem test_decode_row_5 :
    [(16, 0x3450), (16, 0x3451), (16, 0x3452), (8, 0x53), (16, 0x3454), (16, 0x3455), (16, 0x3456), (16, 0x3457),
      (8, 0x58), (24, 0x123459), (8, 0x5A), (8, 0x5B), (24, 0x12345C), (24, 0x12345D), (24, 0x12345E),
      (24, 0x12345F)].map (fun p => decodeTableWord p.1 p.2) =
    [.bvc 0x34#8, .eorZpindy 0x34#8, .eorZpind 0x34#8, .und53, .und54, .eorZpx 0x34#8, .lsrZpx 0x34#8,
      .rmb5 0x34#8, .cli, .eorAbsy 0x1234#16, .phy, .und5B, .und5C, .eorAbsx 0x1234#16, .lsrAbsx 0x1234#16,
      .bbr5 0x34#8 0x12#8].map some := by decide

/-- Opcodes `0x60` to `0x6F` (rule R64, the encodings of rules R60 to R63). -/
theorem test_decode_row_6 :
    [(8, 0x60), (16, 0x3461), (16, 0x3462), (8, 0x63), (16, 0x3464), (16, 0x3465), (16, 0x3466), (16, 0x3467),
      (8, 0x68), (16, 0x3469), (8, 0x6A), (8, 0x6B), (24, 0x12346C), (24, 0x12346D), (24, 0x12346E), (24, 0x12346F)].map (fun p => decodeTableWord p.1 p.2) =
    [.rts, .adcZpindx 0x34#8, .und62, .und63, .stzZp 0x34#8, .adcZp 0x34#8, .rorZp 0x34#8, .rmb6 0x34#8, .pla,
      .adcImm 0x34#8, .rorAcc, .und6B, .jmpInd 0x1234#16, .adcAbs 0x1234#16, .rorAbs 0x1234#16, .bbr6 0x34#8 0x12#8].map some := by decide

/-- Opcodes `0x70` to `0x7F` (rule R64, the encodings of rules R60 to R63). -/
theorem test_decode_row_7 :
    [(16, 0x3470), (16, 0x3471), (16, 0x3472), (8, 0x73), (16, 0x3474), (16, 0x3475), (16, 0x3476), (16, 0x3477),
      (8, 0x78), (24, 0x123479), (8, 0x7A), (8, 0x7B), (24, 0x12347C), (24, 0x12347D), (24, 0x12347E),
      (24, 0x12347F)].map (fun p => decodeTableWord p.1 p.2) =
    [.bvs 0x34#8, .adcZpindy 0x34#8, .adcZpind 0x34#8, .und73, .stzZpx 0x34#8, .adcZpx 0x34#8, .rorZpx 0x34#8,
      .rmb7 0x34#8, .sei, .adcAbsy 0x1234#16, .ply, .und7B, .jmpAbsindx 0x1234#16, .adcAbsx 0x1234#16,
      .rorAbsx 0x1234#16, .bbr7 0x34#8 0x12#8].map some := by decide

/-- Opcodes `0x80` to `0x8F` (rule R64, the encodings of rules R60 to R63). -/
theorem test_decode_row_8 :
    [(16, 0x3480), (16, 0x3481), (16, 0x3482), (8, 0x83), (16, 0x3484), (16, 0x3485), (16, 0x3486), (16, 0x3487),
      (8, 0x88), (16, 0x3489), (8, 0x8A), (8, 0x8B), (24, 0x12348C), (24, 0x12348D), (24, 0x12348E), (24, 0x12348F)].map (fun p => decodeTableWord p.1 p.2) =
    [.bra 0x34#8, .staZpindx 0x34#8, .und82, .und83, .styZp 0x34#8, .staZp 0x34#8, .stxZp 0x34#8, .smb0 0x34#8,
      .dey, .bitImm 0x34#8, .txa, .und8B, .styAbs 0x1234#16, .staAbs 0x1234#16, .stxAbs 0x1234#16,
      .bbs0 0x34#8 0x12#8].map some := by decide

/-- Opcodes `0x90` to `0x9F` (rule R64, the encodings of rules R60 to R63). -/
theorem test_decode_row_9 :
    [(16, 0x3490), (16, 0x3491), (16, 0x3492), (8, 0x93), (16, 0x3494), (16, 0x3495), (16, 0x3496), (16, 0x3497),
      (8, 0x98), (24, 0x123499), (8, 0x9A), (8, 0x9B), (24, 0x12349C), (24, 0x12349D), (24, 0x12349E),
      (24, 0x12349F)].map (fun p => decodeTableWord p.1 p.2) =
    [.bcc 0x34#8, .staZpindy 0x34#8, .staZpind 0x34#8, .und93, .styZpx 0x34#8, .staZpx 0x34#8, .stxZpy 0x34#8,
      .smb1 0x34#8, .tya, .staAbsy 0x1234#16, .txs, .und9B, .stzAbs 0x1234#16, .staAbsx 0x1234#16,
      .stzAbsx 0x1234#16, .bbs1 0x34#8 0x12#8].map some := by decide

/-- Opcodes `0xA0` to `0xAF` (rule R64, the encodings of rules R60 to R63). -/
theorem test_decode_row_A :
    [(16, 0x34A0), (16, 0x34A1), (16, 0x34A2), (8, 0xA3), (16, 0x34A4), (16, 0x34A5), (16, 0x34A6), (16, 0x34A7),
      (8, 0xA8), (16, 0x34A9), (8, 0xAA), (8, 0xAB), (24, 0x1234AC), (24, 0x1234AD), (24, 0x1234AE), (24, 0x1234AF)].map (fun p => decodeTableWord p.1 p.2) =
    [.ldyImm 0x34#8, .ldaZpindx 0x34#8, .ldxImm 0x34#8, .undA3, .ldyZp 0x34#8, .ldaZp 0x34#8, .ldxZp 0x34#8,
      .smb2 0x34#8, .tay, .ldaImm 0x34#8, .tax, .undAB, .ldyAbs 0x1234#16, .ldaAbs 0x1234#16, .ldxAbs 0x1234#16,
      .bbs2 0x34#8 0x12#8].map some := by decide

/-- Opcodes `0xB0` to `0xBF` (rule R64, the encodings of rules R60 to R63). -/
theorem test_decode_row_B :
    [(16, 0x34B0), (16, 0x34B1), (16, 0x34B2), (8, 0xB3), (16, 0x34B4), (16, 0x34B5), (16, 0x34B6), (16, 0x34B7),
      (8, 0xB8), (24, 0x1234B9), (8, 0xBA), (8, 0xBB), (24, 0x1234BC), (24, 0x1234BD), (24, 0x1234BE),
      (24, 0x1234BF)].map (fun p => decodeTableWord p.1 p.2) =
    [.bcs 0x34#8, .ldaZpindy 0x34#8, .ldaZpind 0x34#8, .undB3, .ldyZpx 0x34#8, .ldaZpx 0x34#8, .ldxZpy 0x34#8,
      .smb3 0x34#8, .clv, .ldaAbsy 0x1234#16, .tsx, .undBB, .ldyAbsx 0x1234#16, .ldaAbsx 0x1234#16,
      .ldxAbsy 0x1234#16, .bbs3 0x34#8 0x12#8].map some := by decide

/-- Opcodes `0xC0` to `0xCF` (rule R64, the encodings of rules R60 to R63). -/
theorem test_decode_row_C :
    [(16, 0x34C0), (16, 0x34C1), (16, 0x34C2), (8, 0xC3), (16, 0x34C4), (16, 0x34C5), (16, 0x34C6), (16, 0x34C7),
      (8, 0xC8), (16, 0x34C9), (8, 0xCA), (8, 0xCB), (24, 0x1234CC), (24, 0x1234CD), (24, 0x1234CE), (24, 0x1234CF)].map (fun p => decodeTableWord p.1 p.2) =
    [.cpyImm 0x34#8, .cmpZpindx 0x34#8, .undC2, .undC3, .cpyZp 0x34#8, .cmpZp 0x34#8, .decZp 0x34#8, .smb4 0x34#8,
      .iny, .cmpImm 0x34#8, .dex, .undCB, .cpyAbs 0x1234#16, .cmpAbs 0x1234#16, .decAbs 0x1234#16,
      .bbs4 0x34#8 0x12#8].map some := by decide

/-- Opcodes `0xD0` to `0xDF` (rule R64, the encodings of rules R60 to R63). -/
theorem test_decode_row_D :
    [(16, 0x34D0), (16, 0x34D1), (16, 0x34D2), (8, 0xD3), (16, 0x34D4), (16, 0x34D5), (16, 0x34D6), (16, 0x34D7),
      (8, 0xD8), (24, 0x1234D9), (8, 0xDA), (8, 0xDB), (24, 0x1234DC), (24, 0x1234DD), (24, 0x1234DE),
      (24, 0x1234DF)].map (fun p => decodeTableWord p.1 p.2) =
    [.bne 0x34#8, .cmpZpindy 0x34#8, .cmpZpind 0x34#8, .undD3, .undD4, .cmpZpx 0x34#8, .decZpx 0x34#8,
      .smb5 0x34#8, .cld, .cmpAbsy 0x1234#16, .phx, .undDB, .undDC, .cmpAbsx 0x1234#16, .decAbsx 0x1234#16,
      .bbs5 0x34#8 0x12#8].map some := by decide

/-- Opcodes `0xE0` to `0xEF` (rule R64, the encodings of rules R60 to R63). -/
theorem test_decode_row_E :
    [(16, 0x34E0), (16, 0x34E1), (16, 0x34E2), (8, 0xE3), (16, 0x34E4), (16, 0x34E5), (16, 0x34E6), (16, 0x34E7),
      (8, 0xE8), (16, 0x34E9), (8, 0xEA), (8, 0xEB), (24, 0x1234EC), (24, 0x1234ED), (24, 0x1234EE), (24, 0x1234EF)].map (fun p => decodeTableWord p.1 p.2) =
    [.cpxImm 0x34#8, .sbcZpindx 0x34#8, .undE2, .undE3, .cpxZp 0x34#8, .sbcZp 0x34#8, .incZp 0x34#8, .smb6 0x34#8,
      .inx, .sbcImm 0x34#8, .nop, .undEB, .cpxAbs 0x1234#16, .sbcAbs 0x1234#16, .incAbs 0x1234#16,
      .bbs6 0x34#8 0x12#8].map some := by decide

/-- Opcodes `0xF0` to `0xFF` (rule R64, the encodings of rules R60 to R63). -/
theorem test_decode_row_F :
    [(16, 0x34F0), (16, 0x34F1), (16, 0x34F2), (8, 0xF3), (16, 0x34F4), (16, 0x34F5), (16, 0x34F6), (16, 0x34F7),
      (8, 0xF8), (24, 0x1234F9), (8, 0xFA), (8, 0xFB), (24, 0x1234FC), (24, 0x1234FD), (24, 0x1234FE),
      (24, 0x1234FF)].map (fun p => decodeTableWord p.1 p.2) =
    [.beq 0x34#8, .sbcZpindy 0x34#8, .sbcZpind 0x34#8, .undF3, .undF4, .sbcZpx 0x34#8, .incZpx 0x34#8,
      .smb7 0x34#8, .sed, .sbcAbsy 0x1234#16, .plx, .undFB, .undFC, .sbcAbsx 0x1234#16, .incAbsx 0x1234#16,
      .bbs7 0x34#8 0x12#8].map some := by decide

/-! ### Well-formedness: the one check refuses an undefined opcode -/

/-- `0x02`, `0x5C`, `0xCB`, `0xDB`, `0xFB` have no mnemonic (rule R68). -/
theorem test_wellFormed_refuses_undefined :
    [Instr.und02, .und5C, .undCB, .undDB, .undFB].map Instr.wellFormed = [false, false, false, false, false] := by decide

/-- `BRK`, `LDA $1234,X` and `BBS7 $FF,label` are instructions (rules R64, R69). -/
theorem test_wellFormed_accepts :
    [Instr.brk, .ldaAbsx 0x1234#16, .bbs7 0xFF#8 0x80#8].map Instr.wellFormed = [true, true, true] := by decide

/-! ### The encoder and the table words -/

/-- The bytes of rule R70 and rule R71: a little-endian address, two operand bytes, the padding of `BRK`. -/
theorem test_encode :
    [Instr.ldaAbs 0x1234#16, .bbr0 0x10#8 0x02#8, .brk, .bne 0xFB#8, .clc].map encode =
      [[0xAD#8, 0x34#8, 0x12#8], [0x0F#8, 0x10#8, 0x02#8], [0x00#8, 0x00#8], [0xD0#8, 0xFB#8], [0x18#8]] := by decide

/-- A table word shorter than its instruction has zero operand bytes; the bytes past the end are not asked for. -/
theorem test_decodeTableWord_pads_with_zero :
    decodeTableWord 8 0xAD = some (.ldaAbs 0x0000#16) ∧ decodeBytes [0xAD#8, 0x34#8] = .error (.truncated 0xAD#8) := by
  decide

/-- `withFetchWord` puts the word where the next step fetches: `LDA #$80` is the first instruction after reset. -/
theorem test_withFetchWord_runs_the_word :
    after (State.reset.withFetchWord 16 0x80A9) fun t => t.a = 0x80#8 ∧ t.pc = State.reset.pc + 2#16 := by decide

/-! ### The functions of the arithmetic and flag unit (tables F1 to F5) -/

/-- Table F1, rows 7, 13, 15 (decimal) and 20 (not valid BCD). -/
theorem test_addWithCarry :
    addWithCarry 0x7F#8 0x7F#8 true false = ⟨0xFF#8, false, true⟩ ∧
    addWithCarry 0x50#8 0x50#8 false true = ⟨0x00#8, true, false⟩ ∧
    addWithCarry 0x79#8 0x00#8 true true = ⟨0x80#8, false, true⟩ ∧
    addWithCarry 0xFF#8 0xFF#8 true true = ⟨0x65#8, true, true⟩ := by decide

/-- Table F2, rows 5, 8, 14 and 16 (not valid BCD). -/
theorem test_subWithCarry :
    subWithCarry 0x7F#8 0xFF#8 true false = ⟨0x80#8, false, true⟩ ∧
    subWithCarry 0x42#8 0x27#8 true true = ⟨0x15#8, true, false⟩ ∧
    subWithCarry 0x12#8 0x21#8 true true = ⟨0x91#8, false, true⟩ ∧
    subWithCarry 0x00#8 0xFF#8 true true = ⟨0x01#8, true, false⟩ := by decide

/-- Table F3, rows 2 and 4. -/
theorem test_compare :
    (compareResult 0x10#8 0x20#8, compareCarry 0x10#8 0x20#8) = (0xF0#8, false) ∧
    (compareResult 0x00#8 0xFF#8, compareCarry 0x00#8 0xFF#8) = (0x01#8, false) := by decide

/-- Table F4: two rows of `Pack` and two of `Unpack`. -/
theorem test_pack_unpack :
    pack false (nvdizc 0b100001) = 0xA1#8 ∧ pack true (nvdizc 0b011000) = 0x78#8 ∧
    unpack 0xC3#8 = nvdizc 0b110011 ∧ unpack 0x3C#8 = nvdizc 0b001100 := by decide

/-- Table F5, row 2 and row 4. -/
theorem test_shifts :
    rol 0x80#8 true = ⟨0x01#8, true⟩ ∧ ror 0x80#8 true = ⟨0xC0#8, false⟩ ∧ asl 0x01#8 = ⟨0x02#8, false⟩ ∧
    lsr 0x01#8 = ⟨0x00#8, true⟩ := by decide

/-! ### Undefined opcodes, reset and interrupts -/

/-- VU02 and VUDB: the fault names the address and the opcode, and does so again. -/
theorem test_undefined_faults :
    step (b0 0x1000#16 [0x02#8, 0xEA#8, 0xEA#8] []) = .fault (.undefinedOpcode 0x1000#16 0x02#8) ∧
    step (b0 0x1000#16 [0xDB#8, 0xEA#8, 0xEA#8] []) = .fault (.undefinedOpcode 0x1000#16 0xDB#8) := ⟨rfl, rfl⟩

/-- The memory of section 2.9 of 95_test_vectors.md: vectors `0xA000`, `0x1234`, `0x9000`. -/
def vectorCells : List (Address × Byte) :=
  [(0xFFFB#16, 0xA0#8), (0xFFFC#16, 0x34#8), (0xFFFD#16, 0x12#8), (0xFFFF#16, 0x90#8)]

/-- The start of VI1. -/
def beforeReset : State :=
  { b0 0x5555#16 [] vectorCells with
    a := 0x11#8, x := 0x22#8, y := 0x33#8, sp := 0x80#8, flags := nvdizc 0b111001, cyc := 1000#64, depth := 3 }

/-- VI1: `Reset()` keeps `CYC` and memory and reads the vector. -/
theorem test_reset :
    let t := resetWith beforeReset.cyc beforeReset.mem
    t.pc = 0x1234#16 ∧ t.sp = 0xFF#8 ∧ t.flags = nvdizc 0b000110 ∧ t.cyc = 1000#64 ∧ t.depth = 0 ∧
    transactions t = [(true, 0xFFFC#16), (true, 0xFFFD#16)] := by decide

/-- VI3: a maskable request is taken; the pushed status has bit 4 clear. -/
theorem test_irq_taken :
    let t := interrupt false { b0 0x1234#16 [] vectorCells with flags := nvdizc 0b101000 }
    t.pc = 0x9000#16 ∧ t.sp = 0xFC#8 ∧ t.flags = nvdizc 0b100100 ∧ t.depth = 1 ∧ t.peek 0x01FF#16 = 0x12#8 ∧
    t.peek 0x01FE#16 = 0x34#8 ∧ t.peek 0x01FD#16 = 0xA8#8 ∧
    transactions t = [(true, 0xFFFE#16), (true, 0xFFFF#16), (false, 0x01FF#16), (false, 0x01FE#16), (false, 0x01FD#16)] := by
  decide

/-- VI4: the non-maskable request is not masked. -/
theorem test_nmi_taken :
    let t := interrupt true (b0 0x9003#16 [] vectorCells)
    t.pc = 0xA000#16 ∧ t.depth = 1 ∧ t.peek 0x01FE#16 = 0x03#8 ∧ t.peek 0x01FD#16 = 0x26#8 := by decide

/-- VI6: `InterruptAt(0x4000, 1)` pushes the status with bit 4 set and reads no vector. -/
theorem test_interruptAt :
    let t := interruptAt 0x4000#16 true { b0 0x1234#16 [] vectorCells with flags := nvdizc 0b000001 }
    t.pc = 0x4000#16 ∧ t.flags = nvdizc 0b000101 ∧ t.peek 0x01FD#16 = 0x31#8 ∧
    transactions t = [(false, 0x01FF#16), (false, 0x01FE#16), (false, 0x01FD#16)] := by decide

/-! ### Witnesses: for every statement with hypotheses, a case that meets them -/

/-- A state whose next instruction is `LDA ($10),Y`, with some memory behind it. -/
def sample : State :=
  { b0 0x1000#16 [0xB1#8, 0x10#8] [(0x0010#16, 0x34#8), (0x0011#16, 0x12#8), (0x1235#16, 0x80#8)] with y := 0x01#8 }

/-- A state at the undefined opcode `0x5C`. -/
def stopped : State := b0 0x1000#16 [0x5C#8] []

/-- `DecodedInstructionHasItsBytes`: a string that is long enough, by exactly its length, and one a byte too short. -/
theorem witness_DecodedInstructionHasItsBytes :
    (descriptor 0xAD#8).length ≤ [0x34#8, 0x12#8].length + 1 ∧ [0x34#8].length + 1 < (descriptor 0xAD#8).length := by decide

/-- `TableRegularities`: opcodes of the accumulator groups other than `0x89`. -/
theorem witness_TableRegularities : 32 * (0 : Fin 8).val + 0x01 ≠ 0x89 ∧ 32 * (7 : Fin 8).val + 0x1D ≠ 0x89 := by decide

/-- `FlagMaskByMnemonic`: one opcode for each clause, `BIT` in both forms. -/
theorem witness_FlagMaskByMnemonic :
    (descriptor 0xA9#8).mnemonic = .lda ∧ (descriptor 0x24#8).mnemonic = .bit ∧
    (descriptor 0x89#8).mnemonic = .bit ∧ (descriptor 0x85#8).mnemonic = .sta := by decide

/-- `LengthsAndBaseCycles`: a defined opcode other than `BRK`. -/
theorem witness_LengthsAndBaseCycles : 0xFF#8 ≠ 0x00#8 ∧ (descriptor 0xFF#8).mode = some .zprel := by decide

/-- `UndefinedOpcodes`: an opcode of each named set, an undefined instruction and a state at one. -/
theorem witness_UndefinedOpcodes :
    (0xFB#8 : Byte).toNat % 16 = 0xB ∧ Instr.und02.mnemonic = .undefined ∧
    (descriptor (stopped.peek stopped.pc)).mnemonic = .undefined := by decide

/-- `UndefinedOpcodeFaultKeepsTheInstance`: a state at an undefined opcode, and an event that is no step. -/
theorem witness_UndefinedOpcodeFaultKeepsTheInstance :
    (descriptor (stopped.peek stopped.pc)).mnemonic = .undefined ∧ Event.reset ≠ Event.step := by decide

/-- `StepRunsDecodedInstruction`: a state whose bytes at `PC` decode, and one whose bytes straddle the top of memory. -/
theorem witness_StepRunsDecodedInstruction :
    decodeBytes [sample.peek sample.pc, sample.peek (sample.pc + 1#16), sample.peek (sample.pc + 2#16)] =
      .ok (.ldaZpindy 0x10#8, [0x00#8]) ∧
    (let s := b0 0xFFFE#16 [0x20#8, 0x34#8, 0x12#8] []
     decodeBytes [s.peek s.pc, s.peek (s.pc + 1#16), s.peek (s.pc + 2#16)] = .ok (.jsrAbs 0x1234#16, [])) := by decide

/-- `EveryDefinedInstructionCompletes`: the first and the last defined row. -/
theorem witness_EveryDefinedInstructionCompletes :
    Instr.brk.wellFormed = true ∧ (Instr.bbs7 0x00#8 0xFF#8).wellFormed = true := by decide

/-- `ProgramCounterAfterInstruction`: a branch taken, a jump through memory and a return complete. -/
theorem witness_ProgramCounterAfterInstruction :
    (∃ t, exec (.beq 0xFE#8) sample = .next t) ∧ (∃ t, exec (.jmpInd 0x0010#16) sample = .next t) ∧
    (∃ t, exec .rti sample = .next t) := ⟨⟨_, rfl⟩, ⟨_, rfl⟩, ⟨_, rfl⟩⟩

/-- The operand of the instruction fetched from three bytes at `0xFFFF`, the fetch wrapping to `0x0000`. -/
def fetchedOperand (b1 b2 b3 : Byte) : Option Operand := (fetch (b0 0xFFFF#16 [b1, b2, b3] [])).1.operand

/-- `ResolverGivesModeAddress`: each of the twelve modes with an effective address is fetched somewhere. -/
theorem witness_ResolverGivesModeAddress :
    [0xA9#8, 0xA5#8, 0xB5#8, 0xB6#8, 0xAD#8, 0xBD#8, 0xB9#8, 0x6C#8, 0x7C#8, 0xB2#8, 0xA1#8, 0xB1#8].map
      (fun op => fetchedOperand op 0xFF#8 0xFF#8) =
    ([.imm 0xFF#8, .zp 0xFF#8, .zpx 0xFF#8, .zpy 0xFF#8, .abs 0xFFFF#16, .absx 0xFFFF#16, .absy 0xFFFF#16,
      .ind 0xFFFF#16, .absindx 0xFFFF#16, .zpind 0xFF#8, .zpindx 0xFF#8, .zpindy 0xFF#8] : List MemOperand).map
      (fun m => some (.mem m)) := by decide

/-- `ResolverGivesBranchTarget`: a branch and a bit branch are fetched. -/
theorem witness_ResolverGivesBranchTarget :
    fetchedOperand 0xD0#8 0x80#8 0x00#8 = some (.rel 0x80#8) ∧
    fetchedOperand 0xFF#8 0x10#8 0x7F#8 = some (.zprel 0x10#8 0x7F#8) := by decide

/-- `ResolverReadsInOrder`: each of the sixteen modes has an opcode. -/
theorem witness_ResolverReadsInOrder :
    [0x18#8, 0x0A#8, 0xA9#8, 0xA5#8, 0xB5#8, 0xB6#8, 0xAD#8, 0xBD#8, 0xB9#8, 0x6C#8, 0x7C#8, 0xB2#8, 0xA1#8, 0xB1#8, 0xD0#8,
      0x0F#8].map (fun op => (descriptor ((b0 0xFFFF#16 [op] []).peek 0xFFFF#16)).mode) =
    [Mode.imp, .acc, .imm, .zp, .zpx, .zpy, .abs, .absx, .absy, .ind, .absindx, .zpind, .zpindx, .zpindy, .rel, .zprel].map
      some := by decide

/-- `DecimalModeIsDecimalArithmetic`: the least and the greatest BCD byte. -/
theorem witness_DecimalModeIsDecimalArithmetic : validBcd 0x00#8 = true ∧ validBcd 0x99#8 = true := by decide

/-- `LoadsWriteRegisterAndFlags`, `StoresWriteOneByte`, `AddAndSubtractInstructions`, `LogicInstructions`,
`CompareInstructions`, `BitInstruction` (both its cases), `TestAndSetTestAndReset`, `IncrementAndDecrement`,
`ShiftsAndRotates`, `JumpGoesToOperandAddress`: an instruction of each mnemonic. -/
theorem witness_per_mnemonic_statements :
    [Instr.ldaZpindy 0xFF#8, .ldxZpy 0xFF#8, .ldyAbsx 0xFFFF#16, .staZpind 0xFF#8, .stxZpy 0xFF#8, .styZpx 0xFF#8,
      .stzAbsx 0xFFFF#16, .adcImm 0xFF#8, .sbcZpindx 0xFF#8, .andAbsy 0xFFFF#16, .oraZp 0x00#8, .eorAbs 0x0000#16].map
      Instr.mnemonic = [.lda, .ldx, .ldy, .sta, .stx, .sty, .stz, .adc, .sbc, .and, .ora, .eor] ∧
    [Instr.cmpImm 0x00#8, .cpxAbs 0xFFFF#16, .cpyZp 0xFF#8, .bitZpx 0xFF#8, .bitImm 0xC0#8, .tsbAbs 0xFFFF#16, .trbZp 0x00#8,
      .incAcc, .decAbsx 0xFFFF#16, .aslAcc, .lsrZpx 0xFF#8, .rolAbs 0xFFFF#16, .rorAcc, .jmpInd 0xFFFF#16].map
      Instr.mnemonic =
      [.cmp, .cpx, .cpy, .bit, .bit, .tsb, .trb, .inc, .dec, .asl, .lsr, .rol, .ror, .jmp] := by decide

/-- `MemoryBitInstructions` and `BitBranches`: the first and the last bit of each. -/
theorem witness_bit_statements :
    [Instr.rmb0 0xFF#8, .rmb7 0x00#8, .smb0 0xFF#8, .smb7 0x00#8, .bbr0 0xFF#8 0x80#8, .bbr7 0x00#8 0x7F#8, .bbs0 0x00#8 0x00#8,
      .bbs7 0xFF#8 0xFF#8].map Instr.mnemonic =
    [.rmb 0, .rmb 7, .smb 0, .smb 7, .bbr 0, .bbr 7, .bbs 0, .bbs 7] := by decide

/-- `JsrThenRtsReturns` and `ReturnUndoesEntry`: a call and a software interrupt complete with the stack pointer at 0. -/
theorem witness_round_trips :
    (∃ t, exec (.jsrAbs 0xFFFF#16) { sample with sp := 0x00#8 } = .next t) ∧
    (∃ t, exec .brk { sample with sp := 0x00#8 } = .next t) := ⟨⟨_, rfl⟩, ⟨_, rfl⟩⟩

/-- `InterruptRequests`: both values of the mask. -/
theorem witness_InterruptRequests :
    sample.flags.i = true ∧ ({ sample with flags := nvdizc 0b000000 } : State).flags.i = false := by decide

/-- `FirstResetMakesTheInstanceRun`: the last clause speaks of the empty memory. -/
theorem witness_FirstResetMakesTheInstanceRun : (Instance.init ⟨1, 1⟩ Memory.empty).phase = .constructed 0#64 [] := rfl

/-- `StepKeepsMemoryCanonical`, `BusAccessesAccountForMemory`, `CountersAreUnobservable`: a canonical memory and a step that
completes, storing `0x00` over the only listed byte; and a step that faults. -/
theorem witness_step_statements :
    CanonicalMemory (b0 0x1000#16 [0x64#8, 0x10#8] [(0x0010#16, 0xFF#8)]) ∧
    (∃ t, step (b0 0x1000#16 [0x64#8, 0x10#8] [(0x0010#16, 0xFF#8)]) = .next t ∧ t.peek 0x0010#16 = 0x00#8) ∧
    step stopped = .fault (.undefinedOpcode 0x1000#16 0x5C#8) := ⟨rfl, ⟨_, rfl, rfl⟩, rfl⟩

/-- `EveryEventKeepsMemoryCanonical`: each kind of event completes on a running instance, and the two that a constructed one
accepts. -/
theorem witness_EveryEventKeepsMemoryCanonical :
    (Phase.running sample).CanonicalMemory ∧
    (∀ e ∈ [Event.reset, .step, .interrupt true, .interrupt false, .interruptAt 0x4000#16 false, .busTarget 0xFFFF#16 0x00#8],
      ∃ q, (Phase.running sample).handle e = .next q) ∧
    (∀ e ∈ [Event.reset, .busTarget 0x0000#16 0xFF#8], ∃ q, (Phase.constructed 5#64 []).handle e = .next q) := by
  refine ⟨rfl, ?_, ?_⟩
  · intro e he
    simp only [List.mem_cons, List.not_mem_nil, or_false] at he
    rcases he with rfl | rfl | rfl | rfl | rfl | rfl <;> exact ⟨_, rfl⟩
  · intro e he
    simp only [List.mem_cons, List.not_mem_nil, or_false] at he
    rcases he with rfl | rfl <;> exact ⟨_, rfl⟩

/-- `CanonicalMemoriesAreDeterminedByReads`: a memory written in two orders, at both ends of the address space. -/
theorem witness_CanonicalMemoriesAreDeterminedByReads :
    let m := cellsOf [(0x0000#16, 0x01#8), (0xFFFF#16, 0x02#8)]
    let m' := cellsOf [(0xFFFF#16, 0x02#8), (0x0000#16, 0x01#8)]
    m.wf = true ∧ m'.wf = true ∧ (∀ a : Address, m.read a = m'.read a) := ⟨rfl, rfl, fun _ => rfl⟩

/-- `OnlyTheirWritersChangeFlags`: for each flag an instruction that changes it. -/
theorem witness_OnlyTheirWritersChangeFlags :
    (∃ t, exec (.ldaImm 0x80#8) sample = .next t ∧ t.flags.n ≠ sample.flags.n) ∧
    (∃ t, exec (.bitZp 0x10#8) { sample with flags := nvdizc 0b010000 } = .next t ∧
      t.flags.v ≠ ({ sample with flags := nvdizc 0b010000 } : State).flags.v) ∧
    (∃ t, exec .sed sample = .next t ∧ t.flags.d ≠ sample.flags.d) ∧
    (∃ t, exec .cli sample = .next t ∧ t.flags.i ≠ sample.flags.i) ∧
    (∃ t, exec (.ldaImm 0x01#8) sample = .next t ∧ t.flags.z ≠ sample.flags.z) ∧
    (∃ t, exec .sec sample = .next t ∧ t.flags.c ≠ sample.flags.c) :=
  ⟨⟨_, rfl, by decide⟩, ⟨_, rfl, by decide⟩, ⟨_, rfl, by decide⟩, ⟨_, rfl, by decide⟩, ⟨_, rfl, by decide⟩,
    ⟨_, rfl, by decide⟩⟩

/-- `OnlyTheirWritersChangeRegisters`: for each register, and for memory, an instruction that changes it. -/
theorem witness_OnlyTheirWritersChangeRegisters :
    (∃ t, exec .incAcc sample = .next t ∧ t.a ≠ sample.a) ∧
    (∃ t, exec .tsx sample = .next t ∧ t.x ≠ sample.x) ∧
    (∃ t, exec .dey sample = .next t ∧ t.y ≠ sample.y) ∧
    (∃ t, exec .txs sample = .next t ∧ t.sp ≠ sample.sp) ∧
    (∃ t, exec .rts sample = .next t ∧ t.depth ≠ sample.depth) ∧
    (∃ t, exec (.smb7 0x40#8) sample = .next t ∧ ¬ SameBytes sample t) :=
  ⟨⟨_, rfl, by decide⟩, ⟨_, rfl, by decide⟩, ⟨_, rfl, by decide⟩, ⟨_, rfl, by decide⟩, ⟨_, rfl, by decide⟩,
    ⟨_, rfl, fun h => absurd (h 0x0040#16) (by decide)⟩⟩

/-! ### One step of each instruction, on the vectors of sections 2.1 and 2.3 to 2.7 -/

/-- VA3: `LDA #$80` -/
theorem test_lda_imm : after (b0 0x1000#16 [0xA9#8, 0x80#8] []) fun t =>
    t.pc = 0x1002#16 ∧ t.a = 0x80#8 ∧ t.flags = nvdizc 0b100100 ∧ t.cyc = 2#64 ∧
    transactions t = [(true, 0x1000#16), (true, 0x1001#16)] := by decide

/-- VA5: `LDA $FF,X` -/
theorem test_zpx_wraps_in_zero_page :
    after { b0 0x1000#16 [0xB5#8, 0xFF#8] [(0x0000#16, 0x11#8), (0x0100#16, 0x22#8)] with x := 0x01#8 } fun t =>
    t.pc = 0x1002#16 ∧ t.a = 0x11#8 ∧ t.flags = nvdizc 0b000100 ∧ t.cyc = 4#64 ∧
    transactions t = [(true, 0x1000#16), (true, 0x1001#16), (true, 0x0000#16)] := by decide

/-- VA7: `LDX $F0,Y` -/
theorem test_zpy_wraps_in_zero_page :
    after { b0 0x1000#16 [0xB6#8, 0xF0#8] [(0x0010#16, 0x55#8), (0x0110#16, 0x66#8)] with y := 0x20#8 } fun t =>
    t.pc = 0x1002#16 ∧ t.x = 0x55#8 ∧ t.flags = nvdizc 0b000100 ∧ t.cyc = 4#64 ∧
    transactions t = [(true, 0x1000#16), (true, 0x1001#16), (true, 0x0010#16)] := by decide

/-- VA9: `LDA $FFFF,X` -/
theorem test_absx_wraps :
    after { b0 0x1000#16 [0xBD#8, 0xFF#8, 0xFF#8] [(0x0000#16, 0x77#8)] with x := 0x01#8 } fun t =>
    t.pc = 0x1003#16 ∧ t.a = 0x77#8 ∧ t.flags = nvdizc 0b000100 ∧ t.cyc = 4#64 ∧
    transactions t = [(true, 0x1000#16), (true, 0x1001#16), (true, 0x1002#16), (true, 0x0000#16)] := by decide

/-- VA11: `LDA $2000,Y` -/
theorem test_absy : after { b0 0x1000#16 [0xB9#8, 0x00#8, 0x20#8] [(0x20FF#16, 0x01#8)] with y := 0xFF#8 } fun t =>
    t.pc = 0x1003#16 ∧ t.a = 0x01#8 ∧ t.flags = nvdizc 0b000100 ∧ t.cyc = 4#64 ∧
    transactions t = [(true, 0x1000#16), (true, 0x1001#16), (true, 0x1002#16), (true, 0x20FF#16)] := by decide

/-- VA12: `JMP ($20FF)` -/
theorem test_ind_reads_across_the_page :
    after (b0 0x1000#16 [0x6C#8, 0xFF#8, 0x20#8] [(0x2000#16, 0x99#8), (0x20FF#16, 0x34#8), (0x2100#16, 0x12#8)]) fun t =>
    t.pc = 0x1234#16 ∧ t.flags = nvdizc 0b000110 ∧ t.cyc = 6#64 ∧
    transactions t = [(true, 0x1000#16), (true, 0x1001#16), (true, 0x1002#16), (true, 0x20FF#16), (true, 0x2100#16)]
    := by decide

/-- VA13: `JMP ($FFFF)` -/
theorem test_ind_pointer_at_top_of_memory :
    after (b0 0x1000#16 [0x6C#8, 0xFF#8, 0xFF#8] [(0x0000#16, 0x56#8), (0xFFFF#16, 0x78#8)]) fun t =>
    t.pc = 0x5678#16 ∧ t.flags = nvdizc 0b000110 ∧ t.cyc = 6#64 ∧
    transactions t = [(true, 0x1000#16), (true, 0x1001#16), (true, 0x1002#16), (true, 0xFFFF#16), (true, 0x0000#16)]
    := by decide

/-- VA14: `JMP ($3000,X)` -/
theorem test_absindx :
    after { b0 0x1000#16 [0x7C#8, 0x00#8, 0x30#8] [(0x3004#16, 0xCD#8), (0x3005#16, 0xAB#8)] with x := 0x04#8 } fun t =>
    t.pc = 0xABCD#16 ∧ t.flags = nvdizc 0b000110 ∧ t.cyc = 6#64 ∧
    transactions t = [(true, 0x1000#16), (true, 0x1001#16), (true, 0x1002#16), (true, 0x3004#16), (true, 0x3005#16)]
    := by decide

/-- VA15: `LDA ($FF)` -/
theorem test_zpind_pointer_at_FF :
    after (b0 0x1000#16 [0xB2#8, 0xFF#8] [(0x0000#16, 0x40#8), (0x00FF#16, 0x00#8), (0x0100#16, 0x50#8), (0x4000#16, 0xAA#8), (0x5000#16, 0xBB#8)]) fun t =>
    t.pc = 0x1002#16 ∧ t.a = 0xAA#8 ∧ t.flags = nvdizc 0b100100 ∧ t.cyc = 5#64 ∧
    transactions t = [(true, 0x1000#16), (true, 0x1001#16), (true, 0x00FF#16), (true, 0x0000#16), (true, 0x4000#16)]
    := by decide

/-- VA16: `LDA ($FE,X)` -/
theorem test_zpindx_pointer_at_FF :
    after { b0 0x1000#16 [0xA1#8, 0xFE#8] [(0x0000#16, 0x43#8), (0x00FF#16, 0x21#8), (0x0100#16, 0x65#8), (0x4321#16, 0xC3#8)] with x := 0x01#8 } fun t =>
    t.pc = 0x1002#16 ∧ t.a = 0xC3#8 ∧ t.flags = nvdizc 0b100100 ∧ t.cyc = 6#64 ∧
    transactions t = [(true, 0x1000#16), (true, 0x1001#16), (true, 0x00FF#16), (true, 0x0000#16), (true, 0x4321#16)]
    := by decide

/-- VA17: `LDA ($FF,X)` -/
theorem test_zpindx_sum_wraps :
    after { b0 0x1000#16 [0xA1#8, 0xFF#8] [(0x0001#16, 0x00#8), (0x0002#16, 0x60#8), (0x6000#16, 0x0F#8)] with x := 0x02#8 } fun t =>
    t.pc = 0x1002#16 ∧ t.a = 0x0F#8 ∧ t.flags = nvdizc 0b000100 ∧ t.cyc = 6#64 ∧
    transactions t = [(true, 0x1000#16), (true, 0x1001#16), (true, 0x0001#16), (true, 0x0002#16), (true, 0x6000#16)]
    := by decide

/-- VA19: `LDA ($FF),Y` -/
theorem test_zpindy_wraps :
    after { b0 0x1000#16 [0xB1#8, 0xFF#8] [(0x0000#16, 0xFF#8), (0x00FF#16, 0xFF#8), (0x0100#16, 0x00#8)] with y := 0x01#8 } fun t =>
    t.pc = 0x1002#16 ∧ t.a = 0xFF#8 ∧ t.flags = nvdizc 0b100100 ∧ t.cyc = 5#64 ∧
    transactions t = [(true, 0x1000#16), (true, 0x1001#16), (true, 0x00FF#16), (true, 0x0000#16), (true, 0x0000#16)]
    := by decide

/-- VA24: `BRA $000A` -/
theorem test_bra_wraps : after (b0 0xFFF8#16 [0x80#8, 0x10#8] []) fun t =>
    t.pc = 0x000A#16 ∧ t.flags = nvdizc 0b000110 ∧ t.cyc = 3#64 ∧
    transactions t = [(true, 0xFFF8#16), (true, 0xFFF9#16)] := by decide

/-- VA25: `BRA $FFFE` -/
theorem test_bra_wraps_below_zero : after (b0 0x0000#16 [0x80#8, 0xFC#8] []) fun t =>
    t.pc = 0xFFFE#16 ∧ t.flags = nvdizc 0b000110 ∧ t.cyc = 3#64 ∧
    transactions t = [(true, 0x0000#16), (true, 0x0001#16)] := by decide

/-- VA27: `LDA #$5A` -/
theorem test_fetch_wraps : after (b0 0xFFFF#16 [0xA9#8, 0x5A#8] [(0x0000#16, 0x5A#8)]) fun t =>
    t.pc = 0x0001#16 ∧ t.a = 0x5A#8 ∧ t.flags = nvdizc 0b000100 ∧ t.cyc = 2#64 ∧
    transactions t = [(true, 0xFFFF#16), (true, 0x0000#16)] := by decide

/-- VL4: `LDX $3000,Y` -/
theorem test_ldx_absy :
    after { b0 0x1000#16 [0xBE#8, 0x00#8, 0x30#8] [(0x3005#16, 0xFF#8)] with y := 0x05#8 } fun t =>
    t.pc = 0x1003#16 ∧ t.x = 0xFF#8 ∧ t.flags = nvdizc 0b100100 ∧ t.cyc = 4#64 := by decide

/-- VL6: `LDY $3010,X` -/
theorem test_ldy_absx :
    after { b0 0x1000#16 [0xBC#8, 0x10#8, 0x30#8] [(0x3011#16, 0x42#8)] with x := 0x01#8 } fun t =>
    t.pc = 0x1003#16 ∧ t.y = 0x42#8 ∧ t.flags = nvdizc 0b000100 ∧ t.cyc = 4#64 := by decide

/-- VL7: `STA $10` -/
theorem test_sta_zero_writes_no_flag :
    after { b0 0x1000#16 [0x85#8, 0x10#8] [(0x0010#16, 0xEE#8)] with flags := nvdizc 0b000100 } fun t =>
    t.pc = 0x1002#16 ∧ t.flags = nvdizc 0b000100 ∧ t.cyc = 3#64 ∧ t.peek 0x0010#16 = 0x00#8 := by decide

/-- VL8: `STA ($20),Y` -/
theorem test_sta_zpindy :
    after { b0 0x1000#16 [0x91#8, 0x20#8] [(0x0020#16, 0xFF#8), (0x0021#16, 0x02#8)] with a := 0xC3#8, y := 0x01#8 } fun t =>
    t.pc = 0x1002#16 ∧ t.flags = nvdizc 0b000110 ∧ t.cyc = 6#64 ∧ t.peek 0x0300#16 = 0xC3#8 := by decide

/-- VL9: `STA $FFFF,X` -/
theorem test_sta_absx_wraps :
    after { b0 0x1000#16 [0x9D#8, 0xFF#8, 0xFF#8] [] with a := 0x12#8, x := 0x02#8 } fun t =>
    t.pc = 0x1003#16 ∧ t.flags = nvdizc 0b000110 ∧ t.cyc = 5#64 ∧ t.peek 0x0001#16 = 0x12#8 := by decide

/-- VL11: `STX $FF,Y` -/
theorem test_stx_zpy_wraps : after { b0 0x1000#16 [0x96#8, 0xFF#8] [] with x := 0x77#8, y := 0x02#8 } fun t =>
    t.pc = 0x1002#16 ∧ t.flags = nvdizc 0b000110 ∧ t.cyc = 4#64 ∧ t.peek 0x0001#16 = 0x77#8 := by decide

/-- VL12: `STY $0200` -/
theorem test_sty_abs : after { b0 0x1000#16 [0x8C#8, 0x00#8, 0x02#8] [] with y := 0x80#8 } fun t =>
    t.pc = 0x1003#16 ∧ t.flags = nvdizc 0b000110 ∧ t.cyc = 4#64 ∧ t.peek 0x0200#16 = 0x80#8 := by decide

/-- VL14: `STZ $4000,X` -/
theorem test_stz_absx :
    after { b0 0x1000#16 [0x9E#8, 0x00#8, 0x40#8] [(0x4010#16, 0xAB#8)] with x := 0x10#8 } fun t =>
    t.pc = 0x1003#16 ∧ t.flags = nvdizc 0b000110 ∧ t.cyc = 5#64 ∧ t.peek 0x4010#16 = 0x00#8 := by decide

/-- VL15: `TAX` -/
theorem test_tax : after { b0 0x1000#16 [0xAA#8] [] with a := 0x80#8 } fun t =>
    t.pc = 0x1001#16 ∧ t.x = 0x80#8 ∧ t.flags = nvdizc 0b100100 ∧ t.cyc = 2#64 := by decide

/-- VL16: `TAY` -/
theorem test_tay : after { b0 0x1000#16 [0xA8#8] [] with y := 0x33#8, flags := nvdizc 0b000100 } fun t =>
    t.pc = 0x1001#16 ∧ t.y = 0x00#8 ∧ t.flags = nvdizc 0b000110 ∧ t.cyc = 2#64 := by decide

/-- VL17: `TXA` -/
theorem test_txa : after { b0 0x1000#16 [0x8A#8] [] with a := 0xFF#8, x := 0x7F#8, flags := nvdizc 0b100100 } fun t =>
    t.pc = 0x1001#16 ∧ t.a = 0x7F#8 ∧ t.flags = nvdizc 0b000100 ∧ t.cyc = 2#64 := by decide

/-- VL18: `TYA` -/
theorem test_tya : after { b0 0x1000#16 [0x98#8] [] with y := 0xFF#8 } fun t =>
    t.pc = 0x1001#16 ∧ t.a = 0xFF#8 ∧ t.flags = nvdizc 0b100100 ∧ t.cyc = 2#64 := by decide

/-- VL20: `TSX` -/
theorem test_tsx :
    after { b0 0x1000#16 [0xBA#8] [] with x := 0x01#8, sp := 0x00#8, flags := nvdizc 0b000100 } fun t =>
    t.pc = 0x1001#16 ∧ t.x = 0x00#8 ∧ t.flags = nvdizc 0b000110 ∧ t.cyc = 2#64 := by decide

/-- VL21: `TXS` -/
theorem test_txs_writes_no_flag :
    after { b0 0x1000#16 [0x9A#8] [] with sp := 0x80#8, flags := nvdizc 0b100100 } fun t =>
    t.pc = 0x1001#16 ∧ t.sp = 0x00#8 ∧ t.flags = nvdizc 0b100100 ∧ t.cyc = 2#64 := by decide

/-- VM1: `ADC #$01` -/
theorem test_adc_overflow :
    after { b0 0x1000#16 [0x69#8, 0x01#8] [] with a := 0x7F#8, flags := nvdizc 0b000100 } fun t =>
    t.pc = 0x1002#16 ∧ t.a = 0x80#8 ∧ t.flags = nvdizc 0b110100 ∧ t.cyc = 2#64 := by decide

/-- VM10: `ADC #$FF` -/
theorem test_adc_invalid_bcd :
    after { b0 0x1000#16 [0x69#8, 0xFF#8] [] with a := 0xFF#8, flags := nvdizc 0b001101 } fun t =>
    t.pc = 0x1002#16 ∧ t.a = 0x65#8 ∧ t.flags = nvdizc 0b011101 ∧ t.cyc = 2#64 := by decide

/-- VM15: `SBC #$01` -/
theorem test_sbc_overflow :
    after { b0 0x1000#16 [0xE9#8, 0x01#8] [] with a := 0x80#8, flags := nvdizc 0b100101 } fun t =>
    t.pc = 0x1002#16 ∧ t.a = 0x7F#8 ∧ t.flags = nvdizc 0b010101 ∧ t.cyc = 2#64 := by decide

/-- VM17: `SBC #$01` -/
theorem test_sbc_decimal_borrow : after { b0 0x1000#16 [0xE9#8, 0x01#8] [] with flags := nvdizc 0b001111 } fun t =>
    t.pc = 0x1002#16 ∧ t.a = 0x99#8 ∧ t.flags = nvdizc 0b101100 ∧ t.cyc = 2#64 := by decide

/-- VM20: `AND $10` -/
theorem test_and_zp :
    after { b0 0x1000#16 [0x25#8, 0x10#8] [(0x0010#16, 0x81#8)] with a := 0xFF#8, flags := nvdizc 0b000100 } fun t =>
    t.pc = 0x1002#16 ∧ t.a = 0x81#8 ∧ t.flags = nvdizc 0b100100 ∧ t.cyc = 3#64 := by decide

/-- VM22: `ORA #$00` -/
theorem test_ora_zero : after { b0 0x1000#16 [0x09#8, 0x00#8] [] with flags := nvdizc 0b000100 } fun t =>
    t.pc = 0x1002#16 ∧ t.flags = nvdizc 0b000110 ∧ t.cyc = 2#64 := by decide

/-- VM23: `EOR #$FF` -/
theorem test_eor : after { b0 0x1000#16 [0x49#8, 0xFF#8] [] with a := 0xFF#8, flags := nvdizc 0b100100 } fun t =>
    t.pc = 0x1002#16 ∧ t.a = 0x00#8 ∧ t.flags = nvdizc 0b000110 ∧ t.cyc = 2#64 := by decide

/-- VM28: `CMP #$FF` -/
theorem test_cmp_spares_v : after { b0 0x1000#16 [0xC9#8, 0xFF#8] [] with flags := nvdizc 0b010111 } fun t =>
    t.pc = 0x1002#16 ∧ t.flags = nvdizc 0b010100 ∧ t.cyc = 2#64 := by decide

/-- VM29: `CPX #$10` -/
theorem test_cpx : after { b0 0x1000#16 [0xE0#8, 0x10#8] [] with x := 0x20#8, flags := nvdizc 0b000100 } fun t =>
    t.pc = 0x1002#16 ∧ t.flags = nvdizc 0b000101 ∧ t.cyc = 2#64 := by decide

/-- VM30: `CPY $10` -/
theorem test_cpy_zp :
    after { b0 0x1000#16 [0xC4#8, 0x10#8] [(0x0010#16, 0x06#8)] with y := 0x05#8, flags := nvdizc 0b000100 } fun t =>
    t.pc = 0x1002#16 ∧ t.flags = nvdizc 0b100100 ∧ t.cyc = 3#64 := by decide

/-- VM31: `BIT $10` -/
theorem test_bit_zp :
    after { b0 0x1000#16 [0x24#8, 0x10#8] [(0x0010#16, 0xC0#8)] with a := 0x01#8, flags := nvdizc 0b000100 } fun t =>
    t.pc = 0x1002#16 ∧ t.flags = nvdizc 0b110110 ∧ t.cyc = 3#64 := by decide

/-- VM33: `BIT #$C0` -/
theorem test_bit_imm_writes_z_only :
    after { b0 0x1000#16 [0x89#8, 0xC0#8] [] with a := 0x01#8, flags := nvdizc 0b000100 } fun t =>
    t.pc = 0x1002#16 ∧ t.flags = nvdizc 0b000110 ∧ t.cyc = 2#64 := by decide

/-- VM36: `TSB $3000` -/
theorem test_tsb_abs : after { b0 0x1000#16 [0x0C#8, 0x00#8, 0x30#8] [(0x3000#16, 0x01#8)] with a := 0x81#8 } fun t =>
    t.pc = 0x1003#16 ∧ t.flags = nvdizc 0b000100 ∧ t.cyc = 6#64 ∧ t.peek 0x3000#16 = 0x81#8 := by decide

/-- VM38: `TRB $3000` -/
theorem test_trb_abs :
    after { b0 0x1000#16 [0x1C#8, 0x00#8, 0x30#8] [(0x3000#16, 0xF0#8)] with a := 0x0F#8, flags := nvdizc 0b000100 } fun t =>
    t.pc = 0x1003#16 ∧ t.flags = nvdizc 0b000110 ∧ t.cyc = 6#64 ∧ t.peek 0x3000#16 = 0xF0#8 := by decide

/-- VM39: `INC $10` -/
theorem test_inc_zp :
    after { b0 0x1000#16 [0xE6#8, 0x10#8] [(0x0010#16, 0xFF#8)] with flags := nvdizc 0b000100 } fun t =>
    t.pc = 0x1002#16 ∧ t.flags = nvdizc 0b000110 ∧ t.cyc = 5#64 ∧ t.peek 0x0010#16 = 0x00#8 := by decide

/-- VM40: `INC A` -/
theorem test_inc_acc_spares_v : after { b0 0x1000#16 [0x1A#8] [] with a := 0x7F#8, flags := nvdizc 0b000100 } fun t =>
    t.pc = 0x1001#16 ∧ t.a = 0x80#8 ∧ t.flags = nvdizc 0b100100 ∧ t.cyc = 2#64 := by decide

/-- VM41: `INC $00FF,X` -/
theorem test_inc_absx_leaves_zero_page :
    after { b0 0x1000#16 [0xFE#8, 0xFF#8, 0x00#8] [(0x0100#16, 0x0F#8)] with x := 0x01#8, flags := nvdizc 0b000100 } fun t =>
    t.pc = 0x1003#16 ∧ t.flags = nvdizc 0b000100 ∧ t.cyc = 7#64 ∧ t.peek 0x0100#16 = 0x10#8 := by decide

/-- VM42: `DEC $10` -/
theorem test_dec_zp :
    after { b0 0x1000#16 [0xC6#8, 0x10#8] [(0x0010#16, 0x00#8)] with flags := nvdizc 0b000100 } fun t =>
    t.pc = 0x1002#16 ∧ t.flags = nvdizc 0b100100 ∧ t.cyc = 5#64 ∧ t.peek 0x0010#16 = 0xFF#8 := by decide

/-- VM43: `DEC A` -/
theorem test_dec_acc : after { b0 0x1000#16 [0x3A#8] [] with a := 0x01#8, flags := nvdizc 0b000100 } fun t =>
    t.pc = 0x1001#16 ∧ t.a = 0x00#8 ∧ t.flags = nvdizc 0b000110 ∧ t.cyc = 2#64 := by decide

/-- VM44: `INX` -/
theorem test_inx : after { b0 0x1000#16 [0xE8#8] [] with x := 0xFF#8, flags := nvdizc 0b100100 } fun t =>
    t.pc = 0x1001#16 ∧ t.x = 0x00#8 ∧ t.flags = nvdizc 0b000110 ∧ t.cyc = 2#64 := by decide

/-- VM45: `INY` -/
theorem test_iny : after { b0 0x1000#16 [0xC8#8] [] with y := 0x7F#8, flags := nvdizc 0b000100 } fun t =>
    t.pc = 0x1001#16 ∧ t.y = 0x80#8 ∧ t.flags = nvdizc 0b100100 ∧ t.cyc = 2#64 := by decide

/-- VM46: `DEX` -/
theorem test_dex : after (b0 0x1000#16 [0xCA#8] []) fun t =>
    t.pc = 0x1001#16 ∧ t.x = 0xFF#8 ∧ t.flags = nvdizc 0b100100 ∧ t.cyc = 2#64 := by decide

/-- VM47: `DEY` -/
theorem test_dey : after { b0 0x1000#16 [0x88#8] [] with y := 0x01#8, flags := nvdizc 0b000100 } fun t =>
    t.pc = 0x1001#16 ∧ t.y = 0x00#8 ∧ t.flags = nvdizc 0b000110 ∧ t.cyc = 2#64 := by decide

/-- VS2: `ASL A` -/
theorem test_asl_acc_ignores_carry :
    after { b0 0x1000#16 [0x0A#8] [] with a := 0x40#8, flags := nvdizc 0b000101 } fun t =>
    t.pc = 0x1001#16 ∧ t.a = 0x80#8 ∧ t.flags = nvdizc 0b100100 ∧ t.cyc = 2#64 := by decide

/-- VS3: `ASL $10` -/
theorem test_asl_zp :
    after { b0 0x1000#16 [0x06#8, 0x10#8] [(0x0010#16, 0xFF#8)] with flags := nvdizc 0b000100 } fun t =>
    t.pc = 0x1002#16 ∧ t.flags = nvdizc 0b100101 ∧ t.cyc = 5#64 ∧ t.peek 0x0010#16 = 0xFE#8 := by decide

/-- VS4: `LSR A` -/
theorem test_lsr_acc : after { b0 0x1000#16 [0x4A#8] [] with a := 0x01#8, flags := nvdizc 0b000100 } fun t =>
    t.pc = 0x1001#16 ∧ t.a = 0x00#8 ∧ t.flags = nvdizc 0b000111 ∧ t.cyc = 2#64 := by decide

/-- VS5: `LSR $3000` -/
theorem test_lsr_abs :
    after { b0 0x1000#16 [0x4E#8, 0x00#8, 0x30#8] [(0x3000#16, 0x80#8)] with flags := nvdizc 0b100100 } fun t =>
    t.pc = 0x1003#16 ∧ t.flags = nvdizc 0b000100 ∧ t.cyc = 6#64 ∧ t.peek 0x3000#16 = 0x40#8 := by decide

/-- VS6: `ROL A` -/
theorem test_rol_acc : after { b0 0x1000#16 [0x2A#8] [] with a := 0x80#8, flags := nvdizc 0b100101 } fun t =>
    t.pc = 0x1001#16 ∧ t.a = 0x01#8 ∧ t.flags = nvdizc 0b000101 ∧ t.cyc = 2#64 := by decide

/-- VS8: `ROL $0F,X` -/
theorem test_rol_zpx :
    after { b0 0x1000#16 [0x36#8, 0x0F#8] [(0x0010#16, 0x40#8)] with x := 0x01#8, flags := nvdizc 0b000101 } fun t =>
    t.pc = 0x1002#16 ∧ t.flags = nvdizc 0b100100 ∧ t.cyc = 6#64 ∧ t.peek 0x0010#16 = 0x81#8 := by decide

/-- VS9: `ROR A` -/
theorem test_ror_acc : after { b0 0x1000#16 [0x6A#8] [] with a := 0x01#8, flags := nvdizc 0b000101 } fun t =>
    t.pc = 0x1001#16 ∧ t.a = 0x80#8 ∧ t.flags = nvdizc 0b100101 ∧ t.cyc = 2#64 := by decide

/-- VS11: `ROR $3000,X` -/
theorem test_ror_absx :
    after { b0 0x1000#16 [0x7E#8, 0x00#8, 0x30#8] [(0x3002#16, 0xFE#8)] with x := 0x02#8, flags := nvdizc 0b000100 } fun t =>
    t.pc = 0x1003#16 ∧ t.flags = nvdizc 0b000100 ∧ t.cyc = 6#64 ∧ t.peek 0x3002#16 = 0x7F#8 := by decide

/-- VS13: `RMB7 $10` -/
theorem test_rmb7_writes_no_flag :
    after { b0 0x1000#16 [0x77#8, 0x10#8] [(0x0010#16, 0x80#8)] with flags := nvdizc 0b000100 } fun t =>
    t.pc = 0x1002#16 ∧ t.flags = nvdizc 0b000100 ∧ t.cyc = 5#64 ∧ t.peek 0x0010#16 = 0x00#8 := by decide

/-- VS14: `RMB3 $10` -/
theorem test_rmb3 : after (b0 0x1000#16 [0x37#8, 0x10#8] [(0x0010#16, 0x00#8)]) fun t =>
    t.pc = 0x1002#16 ∧ t.flags = nvdizc 0b000110 ∧ t.cyc = 5#64 ∧ t.peek 0x0010#16 = 0x00#8 := by decide

/-- VS16: `SMB7 $10` -/
theorem test_smb7_writes_no_flag : after (b0 0x1000#16 [0xF7#8, 0x10#8] [(0x0010#16, 0x7F#8)]) fun t =>
    t.pc = 0x1002#16 ∧ t.flags = nvdizc 0b000110 ∧ t.cyc = 5#64 ∧ t.peek 0x0010#16 = 0xFF#8 := by decide

/-- VS15: `SMB0 $10` -/
theorem test_smb0 : after (b0 0x1000#16 [0x87#8, 0x10#8] [(0x0010#16, 0x00#8)]) fun t =>
    t.pc = 0x1002#16 ∧ t.flags = nvdizc 0b000110 ∧ t.cyc = 5#64 ∧ t.peek 0x0010#16 = 0x01#8 := by decide

/-- VT2: `JMP $1000` -/
theorem test_jmp_to_itself : after (b0 0x1000#16 [0x4C#8, 0x00#8, 0x10#8] []) fun t =>
    t.pc = 0x1000#16 ∧ t.flags = nvdizc 0b000110 ∧ t.cyc = 3#64 := by decide

/-- VT4: `JSR $1234` -/
theorem test_jsr_across_the_top :
    after { b0 0xFFFE#16 [0x20#8, 0x34#8, 0x12#8] [(0x0000#16, 0x12#8)] with sp := 0x00#8 } fun t =>
    t.pc = 0x1234#16 ∧ t.sp = 0xFE#8 ∧ t.depth = 1 ∧ t.flags = nvdizc 0b000110 ∧ t.cyc = 6#64 ∧
    t.peek 0x0100#16 = 0x00#8 ∧ t.peek 0x01FF#16 = 0x00#8 ∧
    transactions t = [(true, 0xFFFE#16), (true, 0xFFFF#16), (true, 0x0000#16), (false, 0x0100#16), (false, 0x01FF#16)]
    := by decide

/-- VT3: `JSR $2000` -/
theorem test_jsr : after (b0 0x1000#16 [0x20#8, 0x00#8, 0x20#8] []) fun t =>
    t.pc = 0x2000#16 ∧ t.sp = 0xFD#8 ∧ t.depth = 1 ∧ t.flags = nvdizc 0b000110 ∧ t.cyc = 6#64 ∧
    t.peek 0x01FF#16 = 0x10#8 ∧ t.peek 0x01FE#16 = 0x02#8 ∧
    transactions t = [(true, 0x1000#16), (true, 0x1001#16), (true, 0x1002#16), (false, 0x01FF#16), (false, 0x01FE#16)]
    := by decide

/-- VT8: `RTS` -/
theorem test_rts_stack_wraps : after (b0 0x2000#16 [0x60#8] [(0x0100#16, 0x33#8), (0x0101#16, 0x44#8)]) fun t =>
    t.pc = 0x4434#16 ∧ t.sp = 0x01#8 ∧ t.depth = -1 ∧ t.flags = nvdizc 0b000110 ∧ t.cyc = 6#64 ∧
    transactions t = [(true, 0x2000#16), (true, 0x0100#16), (true, 0x0101#16)] := by decide

/-- VT6: `RTS` -/
theorem test_rts :
    after { b0 0x2000#16 [0x60#8] [(0x01FE#16, 0x02#8), (0x01FF#16, 0x10#8)] with sp := 0xFD#8 } fun t =>
    t.pc = 0x1003#16 ∧ t.sp = 0xFF#8 ∧ t.depth = -1 ∧ t.flags = nvdizc 0b000110 ∧ t.cyc = 6#64 ∧
    transactions t = [(true, 0x2000#16), (true, 0x01FE#16), (true, 0x01FF#16)] := by decide

/-- VT9: `BPL $1007` -/
theorem test_bpl_taken : after (b0 0x1000#16 [0x10#8, 0x05#8] []) fun t =>
    t.pc = 0x1007#16 ∧ t.flags = nvdizc 0b000110 ∧ t.cyc = 2#64 := by decide

/-- VT10: `BPL $1007` -/
theorem test_bpl_not_taken : after { b0 0x1000#16 [0x10#8, 0x05#8] [] with flags := nvdizc 0b100110 } fun t =>
    t.pc = 0x1002#16 ∧ t.flags = nvdizc 0b100110 ∧ t.cyc = 2#64 := by decide

/-- VT11: `BMI $1007` -/
theorem test_bmi_taken : after { b0 0x1000#16 [0x30#8, 0x05#8] [] with flags := nvdizc 0b100110 } fun t =>
    t.pc = 0x1007#16 ∧ t.flags = nvdizc 0b100110 ∧ t.cyc = 2#64 := by decide

/-- VT12: `BMI $1007` -/
theorem test_bmi_not_taken : after (b0 0x1000#16 [0x30#8, 0x05#8] []) fun t =>
    t.pc = 0x1002#16 ∧ t.flags = nvdizc 0b000110 ∧ t.cyc = 2#64 := by decide

/-- VT13: `BVC $1081` -/
theorem test_bvc_taken : after (b0 0x1000#16 [0x50#8, 0x7F#8] []) fun t =>
    t.pc = 0x1081#16 ∧ t.flags = nvdizc 0b000110 ∧ t.cyc = 2#64 := by decide

/-- VT14: `BVC $1081` -/
theorem test_bvc_not_taken : after { b0 0x1000#16 [0x50#8, 0x7F#8] [] with flags := nvdizc 0b010110 } fun t =>
    t.pc = 0x1002#16 ∧ t.flags = nvdizc 0b010110 ∧ t.cyc = 2#64 := by decide

/-- VT15: `BVS $0F82` -/
theorem test_bvs_taken : after { b0 0x1000#16 [0x70#8, 0x80#8] [] with flags := nvdizc 0b010110 } fun t =>
    t.pc = 0x0F82#16 ∧ t.flags = nvdizc 0b010110 ∧ t.cyc = 2#64 := by decide

/-- VT16: `BVS $0F82` -/
theorem test_bvs_not_taken : after (b0 0x1000#16 [0x70#8, 0x80#8] []) fun t =>
    t.pc = 0x1002#16 ∧ t.flags = nvdizc 0b000110 ∧ t.cyc = 2#64 := by decide

/-- VT17: `BCC $1012` -/
theorem test_bcc_taken : after (b0 0x1000#16 [0x90#8, 0x10#8] []) fun t =>
    t.pc = 0x1012#16 ∧ t.flags = nvdizc 0b000110 ∧ t.cyc = 2#64 := by decide

/-- VT18: `BCC $1012` -/
theorem test_bcc_not_taken : after { b0 0x1000#16 [0x90#8, 0x10#8] [] with flags := nvdizc 0b000111 } fun t =>
    t.pc = 0x1002#16 ∧ t.flags = nvdizc 0b000111 ∧ t.cyc = 2#64 := by decide

/-- VT19: `BCS $0FF2` -/
theorem test_bcs_taken : after { b0 0x1000#16 [0xB0#8, 0xF0#8] [] with flags := nvdizc 0b000111 } fun t =>
    t.pc = 0x0FF2#16 ∧ t.flags = nvdizc 0b000111 ∧ t.cyc = 2#64 := by decide

/-- VT20: `BCS $0FF2` -/
theorem test_bcs_not_taken : after (b0 0x1000#16 [0xB0#8, 0xF0#8] []) fun t =>
    t.pc = 0x1002#16 ∧ t.flags = nvdizc 0b000110 ∧ t.cyc = 2#64 := by decide

/-- VA20: `BNE $0FFD` -/
theorem test_bne_taken : after { b0 0x1000#16 [0xD0#8, 0xFB#8] [] with flags := nvdizc 0b000100 } fun t =>
    t.pc = 0x0FFD#16 ∧ t.flags = nvdizc 0b000100 ∧ t.cyc = 2#64 ∧
    transactions t = [(true, 0x1000#16), (true, 0x1001#16)] := by decide

/-- VA21: `BNE $0FFD` -/
theorem test_bne_not_taken : after (b0 0x1000#16 [0xD0#8, 0xFB#8] []) fun t =>
    t.pc = 0x1002#16 ∧ t.flags = nvdizc 0b000110 ∧ t.cyc = 2#64 ∧
    transactions t = [(true, 0x1000#16), (true, 0x1001#16)] := by decide

/-- VT23: `BEQ $1002` -/
theorem test_beq : after (b0 0x1000#16 [0xF0#8, 0x00#8] []) fun t =>
    t.pc = 0x1002#16 ∧ t.flags = nvdizc 0b000110 ∧ t.cyc = 2#64 := by decide

/-- VT28: `BBR7 $10,$2082` -/
theorem test_bbr7_taken : after (b0 0x2000#16 [0x7F#8, 0x10#8, 0x7F#8] [(0x0010#16, 0x7F#8)]) fun t =>
    t.pc = 0x2082#16 ∧ t.flags = nvdizc 0b000110 ∧ t.cyc = 5#64 := by decide

/-- VT27: `BBR0 $10,$2005` -/
theorem test_bbr0_not_taken : after (b0 0x2000#16 [0x0F#8, 0x10#8, 0x02#8] [(0x0010#16, 0x01#8)]) fun t =>
    t.pc = 0x2003#16 ∧ t.flags = nvdizc 0b000110 ∧ t.cyc = 5#64 := by decide

/-- VT29: `BBS7 $10,$2000` -/
theorem test_bbs7_to_itself : after (b0 0x2000#16 [0xFF#8, 0x10#8, 0xFD#8] [(0x0010#16, 0x80#8)]) fun t =>
    t.pc = 0x2000#16 ∧ t.flags = nvdizc 0b000110 ∧ t.cyc = 5#64 := by decide

/-- VT30: `BBS0 $10,$1F83` -/
theorem test_bbs0_not_taken : after (b0 0x2000#16 [0x8F#8, 0x10#8, 0x80#8] [(0x0010#16, 0x00#8)]) fun t =>
    t.pc = 0x2003#16 ∧ t.flags = nvdizc 0b000110 ∧ t.cyc = 5#64 := by decide

/-- VT31: `BBS3 $FF,$2013` -/
theorem test_bbs3_taken : after (b0 0x2000#16 [0xBF#8, 0xFF#8, 0x10#8] [(0x00FF#16, 0x08#8)]) fun t =>
    t.pc = 0x2013#16 ∧ t.flags = nvdizc 0b000110 ∧ t.cyc = 5#64 := by decide

/-- VK2: `PHA` -/
theorem test_pha_stack_wraps : after { b0 0x1000#16 [0x48#8] [] with a := 0xAB#8, sp := 0x00#8 } fun t =>
    t.pc = 0x1001#16 ∧ t.sp = 0xFF#8 ∧ t.flags = nvdizc 0b000110 ∧ t.cyc = 3#64 ∧ t.peek 0x0100#16 = 0xAB#8
    := by decide

/-- VK3: `PHX` -/
theorem test_phx : after { b0 0x1000#16 [0xDA#8] [] with x := 0x11#8 } fun t =>
    t.pc = 0x1001#16 ∧ t.sp = 0xFE#8 ∧ t.flags = nvdizc 0b000110 ∧ t.cyc = 3#64 ∧ t.peek 0x01FF#16 = 0x11#8
    := by decide

/-- VK4: `PHY` -/
theorem test_phy : after { b0 0x1000#16 [0x5A#8] [] with y := 0x22#8 } fun t =>
    t.pc = 0x1001#16 ∧ t.sp = 0xFE#8 ∧ t.flags = nvdizc 0b000110 ∧ t.cyc = 3#64 ∧ t.peek 0x01FF#16 = 0x22#8
    := by decide

/-- VK6: `PHP` -/
theorem test_php_break_bit_clear : after { b0 0x1000#16 [0x08#8] [] with flags := nvdizc 0b111111 } fun t =>
    t.pc = 0x1001#16 ∧ t.sp = 0xFE#8 ∧ t.flags = nvdizc 0b111111 ∧ t.cyc = 3#64 ∧ t.peek 0x01FF#16 = 0xEF#8
    := by decide

/-- VK9: `PLA` -/
theorem test_pla_stack_wraps :
    after { b0 0x1000#16 [0x68#8] [(0x0100#16, 0x80#8)] with flags := nvdizc 0b000100 } fun t =>
    t.pc = 0x1001#16 ∧ t.a = 0x80#8 ∧ t.sp = 0x00#8 ∧ t.flags = nvdizc 0b100100 ∧ t.cyc = 4#64 := by decide

/-- VK10: `PLX` -/
theorem test_plx : after { b0 0x1000#16 [0xFA#8] [(0x01FF#16, 0x7F#8)] with sp := 0xFE#8 } fun t =>
    t.pc = 0x1001#16 ∧ t.x = 0x7F#8 ∧ t.sp = 0xFF#8 ∧ t.flags = nvdizc 0b000100 ∧ t.cyc = 4#64 := by decide

/-- VK11: `PLY` -/
theorem test_ply : after { b0 0x1000#16 [0x7A#8] [(0x01FF#16, 0xFF#8)] with sp := 0xFE#8 } fun t =>
    t.pc = 0x1001#16 ∧ t.y = 0xFF#8 ∧ t.sp = 0xFF#8 ∧ t.flags = nvdizc 0b100100 ∧ t.cyc = 4#64 := by decide

/-- VK13: `PLP` -/
theorem test_plp : after { b0 0x1000#16 [0x28#8] [(0x01FF#16, 0xFF#8)] with sp := 0xFE#8 } fun t =>
    t.pc = 0x1001#16 ∧ t.sp = 0xFF#8 ∧ t.flags = nvdizc 0b111111 ∧ t.cyc = 4#64 := by decide

/-- VK15: `CLC` -/
theorem test_clc : after { b0 0x1000#16 [0x18#8] [] with flags := nvdizc 0b000111 } fun t =>
    t.pc = 0x1001#16 ∧ t.flags = nvdizc 0b000110 ∧ t.cyc = 2#64 := by decide

/-- VK16: `SEC` -/
theorem test_sec : after (b0 0x1000#16 [0x38#8] []) fun t =>
    t.pc = 0x1001#16 ∧ t.flags = nvdizc 0b000111 ∧ t.cyc = 2#64 := by decide

/-- VK17: `CLI` -/
theorem test_cli : after (b0 0x1000#16 [0x58#8] []) fun t =>
    t.pc = 0x1001#16 ∧ t.flags = nvdizc 0b000010 ∧ t.cyc = 2#64 := by decide

/-- VK18: `SEI` -/
theorem test_sei : after { b0 0x1000#16 [0x78#8] [] with flags := nvdizc 0b000010 } fun t =>
    t.pc = 0x1001#16 ∧ t.flags = nvdizc 0b000110 ∧ t.cyc = 2#64 := by decide

/-- VK19: `CLD` -/
theorem test_cld : after { b0 0x1000#16 [0xD8#8] [] with flags := nvdizc 0b001110 } fun t =>
    t.pc = 0x1001#16 ∧ t.flags = nvdizc 0b000110 ∧ t.cyc = 2#64 := by decide

/-- VK20: `SED` -/
theorem test_sed : after (b0 0x1000#16 [0xF8#8] []) fun t =>
    t.pc = 0x1001#16 ∧ t.flags = nvdizc 0b001110 ∧ t.cyc = 2#64 := by decide

/-- VK21: `CLV` -/
theorem test_clv : after { b0 0x1000#16 [0xB8#8] [] with flags := nvdizc 0b010110 } fun t =>
    t.pc = 0x1001#16 ∧ t.flags = nvdizc 0b000110 ∧ t.cyc = 2#64 := by decide

/-- VK22: `NOP` -/
theorem test_nop : after (b0 0x1000#16 [0xEA#8] []) fun t =>
    t.pc = 0x1001#16 ∧ t.flags = nvdizc 0b000110 ∧ t.cyc = 2#64 := by decide

/-- VK23: `BRK` -/
theorem test_brk :
    after { b0 0x1000#16 [0x00#8, 0xFF#8] [(0xFFFE#16, 0x00#8), (0xFFFF#16, 0x90#8)] with flags := nvdizc 0b001001 } fun t =>
    t.pc = 0x9000#16 ∧ t.sp = 0xFC#8 ∧ t.depth = 1 ∧ t.flags = nvdizc 0b000101 ∧ t.cyc = 7#64 ∧
    t.peek 0x01FF#16 = 0x10#8 ∧ t.peek 0x01FE#16 = 0x02#8 ∧ t.peek 0x01FD#16 = 0x39#8 ∧
    transactions t = [(true, 0x1000#16), (true, 0xFFFE#16), (true, 0xFFFF#16), (false, 0x01FF#16), (false, 0x01FE#16), (false, 0x01FD#16)]
    := by decide

/-- VK25: `BRK` -/
theorem test_brk_at_FFFF : after (b0 0xFFFF#16 [0x00#8, 0x00#8] [(0xFFFE#16, 0x34#8), (0xFFFF#16, 0x00#8)]) fun t =>
    t.pc = 0x0034#16 ∧ t.sp = 0xFC#8 ∧ t.depth = 1 ∧ t.flags = nvdizc 0b000110 ∧ t.cyc = 7#64 ∧
    t.peek 0x01FF#16 = 0x00#8 ∧ t.peek 0x01FE#16 = 0x01#8 ∧ t.peek 0x01FD#16 = 0x36#8 ∧
    transactions t = [(true, 0xFFFF#16), (true, 0xFFFE#16), (true, 0xFFFF#16), (false, 0x01FF#16), (false, 0x01FE#16), (false, 0x01FD#16)]
    := by decide

/-- VK26: `RTI` -/
theorem test_rti :
    after { b0 0x9000#16 [0x40#8] [(0x01FD#16, 0x39#8), (0x01FE#16, 0x02#8), (0x01FF#16, 0x10#8)] with sp := 0xFC#8 } fun t =>
    t.pc = 0x1002#16 ∧ t.sp = 0xFF#8 ∧ t.depth = -1 ∧ t.flags = nvdizc 0b001001 ∧ t.cyc = 6#64 ∧
    transactions t = [(true, 0x9000#16), (true, 0x01FD#16), (true, 0x01FE#16), (true, 0x01FF#16)] := by decide

/-- VK27: `RTI` -/
theorem test_rti_stack_wraps :
    after { b0 0x9000#16 [0x40#8] [(0x0100#16, 0x00#8), (0x0101#16, 0x80#8), (0x01FF#16, 0xFF#8)] with sp := 0xFE#8 } fun t =>
    t.pc = 0x8000#16 ∧ t.sp = 0x01#8 ∧ t.depth = -1 ∧ t.flags = nvdizc 0b111111 ∧ t.cyc = 6#64 ∧
    transactions t = [(true, 0x9000#16), (true, 0x01FF#16), (true, 0x0100#16), (true, 0x0101#16)] := by decide

end Sys2Proof.Tests
end

section
/-! PROOFS, family 30_encoding.md. O5: the flag-mask column of the decoder table (rule R66). -/

namespace Sys2Proof.Machine

/-! ### Every opcode's descriptor is an entry of the table -/

theorem length_of_mem_descriptorRows : ∀ row ∈ descriptorRows, row.length = 16 := by decide

theorem descriptor_eq_defaultDescriptor (op : Byte) : descriptor op = defaultDescriptor op := rfl

/-- The table is full: the fallback entry of `defaultDescriptor` is never used, so what holds of every entry of the
table holds of every opcode. -/
theorem descriptor_mem_descriptorRows (op : Byte) : ∃ row ∈ descriptorRows, descriptor op ∈ row := by
  have hhigh : op.toNat / 16 < descriptorRows.length := by
    have := op.isLt
    simp only [descriptorRows, List.length_cons, List.length_nil]
    omega
  have hrow : descriptorRows[op.toNat / 16] ∈ descriptorRows := List.getElem_mem hhigh
  have hlow : op.toNat % 16 < descriptorRows[op.toNat / 16].length := by
    rw [length_of_mem_descriptorRows _ hrow]
    exact Nat.mod_lt _ (by decide)
  refine ⟨_, hrow, ?_⟩
  rw [descriptor_eq_defaultDescriptor, defaultDescriptor, List.getD_eq_getElem _ _ hhigh, List.getD_eq_getElem _ _ hlow]
  exact List.getElem_mem hlow

/-! ### The flag mask as a function of the mnemonic and the mode -/

/-- The mnemonics whose result sets both `N` and `Z` by the generic rule (rule R66). -/
def nzMnemonics : List Mnemonic :=
  [.ora, .and, .eor, .adc, .sbc, .cmp, .cpx, .cpy, .lda, .ldx, .ldy, .tax, .tay, .txa, .tya, .tsx, .inx, .iny, .dex, .dey,
    .inc, .dec, .asl, .lsr, .rol, .ror, .pla, .plx, .ply]

/-- Rule R66: the flag mask of a mnemonic in a mode. -/
def flagMaskOf (mn : Mnemonic) (mode : Option Mode) : FlagMask :=
  if mn ∈ nzMnemonics then .nz
  else if mn = .bit then if mode = some .imm then .none else .n
  else .none

theorem flagMaskOf_of_mem_nzMnemonics {mn : Mnemonic} (h : mn ∈ nzMnemonics) (mode : Option Mode) :
    flagMaskOf mn mode = .nz := if_pos h

theorem flagMaskOf_bit (mode : Option Mode) :
    flagMaskOf .bit mode = if mode = some .imm then .none else .n := rfl

theorem flagMaskOf_of_not_mem {mn : Mnemonic} (h : mn ∉ nzMnemonics ++ [.bit]) (mode : Option Mode) :
    flagMaskOf mn mode = .none := by
  obtain ⟨hnz, hbit⟩ : mn ∉ nzMnemonics ∧ mn ≠ .bit := by simpa only [List.mem_append, List.mem_singleton, not_or] using h
  rw [flagMaskOf, if_neg hnz, if_neg hbit]

/-- The table keeps rule R66, entry by entry. -/
theorem flagMask_eq_of_mem_descriptorRows :
    ∀ row ∈ descriptorRows, ∀ d ∈ row, d.flagMask = flagMaskOf d.mnemonic d.mode := by decide

theorem descriptor_flagMask (op : Byte) :
    (descriptor op).flagMask = flagMaskOf (descriptor op).mnemonic (descriptor op).mode := by
  obtain ⟨row, hrow, hop⟩ := descriptor_mem_descriptorRows op
  exact flagMask_eq_of_mem_descriptorRows row hrow _ hop

/-- Settles O5: every entry of the table has the mask `flagMaskOf` gives, whose three cases are the three clauses. -/
theorem flagMaskByMnemonic : Obligations.FlagMaskByMnemonic := by
  unfold Obligations.FlagMaskByMnemonic
  intro op
  rw [descriptor_flagMask op]
  refine ⟨fun hnz => ?_, fun hbit => ?_, fun hother => ?_⟩
  · exact flagMaskOf_of_mem_nzMnemonics hnz _
  · rw [hbit, flagMaskOf_bit]
  · exact flagMaskOf_of_not_mem hother _

end Sys2Proof.Machine
end

section
/-! PROOFS, family 41_alu_flags.md. O17: the overflow bit (rule R101). -/

namespace Sys2Proof.Machine

/-! ### The sign test, in both modes -/

/-- Masking with `0x80` asks for the sign bit. -/
theorem and_0x80_ne_zero_iff (x : Byte) : x &&& 0x80#8 ≠ 0#8 ↔ x.msb = true := by
  rw [show 0x80#8 = BitVec.twoPow 8 7 from rfl, BitVec.and_twoPow, BitVec.msb_eq_getLsbD_last]
  cases x.getLsbD 7 <;> decide

/-- Two signs both differ from a third exactly when they agree and the first differs from it. -/
theorem xor_and_xor_iff : ∀ a m r : Bool, ((a ^^ r) && (m ^^ r)) = true ↔ a = m ∧ a ≠ r := by decide

/-- The masked formula of rule R101 compares the three signs. -/
theorem overflow_iff_msb (a m r : Byte) : overflow a m r = true ↔ a.msb = m.msb ∧ a.msb ≠ r.msb := by
  rw [overflow, decide_eq_true_iff, and_0x80_ne_zero_iff, BitVec.msb_and, BitVec.msb_xor, BitVec.msb_xor]
  exact xor_and_xor_iff a.msb m.msb r.msb

/-- Neither mode has an overflow rule of its own: the bit is computed from the operands and the result byte. -/
theorem addWithCarry_overflow (a m : Byte) (cin dec : Bool) :
    (addWithCarry a m cin dec).overflow = overflow a m (addWithCarry a m cin dec).result := rfl

/-! ### Signed overflow, in binary mode -/

theorem toInt_bounds (x : Byte) : -128 ≤ x.toInt ∧ x.toInt ≤ 127 :=
  ⟨BitVec.le_toInt x, Int.lt_add_one_iff.mp BitVec.toInt_lt⟩

theorem msb_eq_iff_toInt (x y : Byte) : x.msb = y.msb ↔ (x.toInt < 0 ↔ y.toInt < 0) := by
  rw [BitVec.msb_eq_toInt, BitVec.msb_eq_toInt, decide_eq_decide]

/-- In binary mode the result is the signed sum, wrapped to a byte. -/
theorem addWithCarry_binary_toInt (a m : Byte) (cin : Bool) :
    (addWithCarry a m cin false).result.toInt = (a.toInt + m.toInt + cin.toNat).bmod 256 := by
  have hsum : (addWithCarry a m cin false).result = BitVec.ofNat 8 (a.toNat + m.toNat + cin.toNat) := rfl
  rw [hsum, BitVec.toInt_ofNat', BitVec.toInt_eq_toNat_bmod, BitVec.toInt_eq_toNat_bmod, Int.add_assoc,
    Int.bmod_add_bmod, Int.add_left_comm, Int.bmod_add_bmod, Int.add_left_comm, ← Int.add_assoc]
  push_cast
  rfl

/-- Adding two signed bytes and a carry leaves the byte range exactly when the signs of the operands agree and the sign of
the wrapped sum is the other. -/
theorem signed_sum_out_of_range_iff {x y c : Int} (hx : -128 ≤ x ∧ x ≤ 127) (hy : -128 ≤ y ∧ y ≤ 127)
    (hc : 0 ≤ c ∧ c ≤ 1) :
    ((x < 0 ↔ y < 0) ∧ ¬(x < 0 ↔ (x + y + c).bmod 256 < 0)) ↔ x + y + c < -128 ∨ 127 < x + y + c := by
  rw [Int.bmod_def]
  omega

theorem addWithCarry_binary_overflow_iff (a m : Byte) (cin : Bool) :
    (addWithCarry a m cin false).overflow = true ↔
      a.toInt + m.toInt + cin.toNat < -128 ∨ 127 < a.toInt + m.toInt + cin.toNat := by
  have hcin : (0 : Int) ≤ cin.toNat ∧ (cin.toNat : Int) ≤ 1 := by cases cin <;> decide
  rw [addWithCarry_overflow, overflow_iff_msb, ne_eq, msb_eq_iff_toInt, msb_eq_iff_toInt, addWithCarry_binary_toInt]
  exact signed_sum_out_of_range_iff (toInt_bounds a) (toInt_bounds m) hcin

/-- Settles O17: the sign test is read off the masked formula; in binary mode the signs are those of the signed sum. -/
theorem overflowIsTheSignTest : Obligations.OverflowIsTheSignTest := by
  unfold Obligations.OverflowIsTheSignTest
  intro a m cin dec
  refine ⟨?_, addWithCarry_binary_overflow_iff a m cin⟩
  rw [addWithCarry_overflow, overflow_iff_msb]

end Sys2Proof.Machine
end

section
/-! PROOFS, family 41_alu_flags.md. O23: shifts, rotates, increment and decrement on numbers (rules R111, R113). -/

namespace Sys2Proof.Machine

/-! ### Bits as numbers -/

theorem getLsbD_seven (v : Byte) : v.getLsbD 7 = decide (128 ≤ v.toNat) :=
  (BitVec.msb_eq_getLsbD_last v).symm.trans (BitVec.msb_eq_decide v)

theorem getLsbD_zero_eq (v : Byte) : v.getLsbD 0 = decide (v.toNat % 2 = 1) := by
  rw [← BitVec.testBit_toNat, Nat.testBit_zero]

/-- Setting a clear bit adds its weight. -/
theorem toNat_or_flagBit {x : Byte} {k : Nat} (hk : k < 8) (hclear : x.getLsbD k = false) (b : Bool) :
    (x ||| flagBit b k).toNat = x.toNat + 2 ^ k * b.toNat := by
  cases b with
  | false => simp [flagBit]
  | true =>
    have hdisjoint : x &&& BitVec.twoPow 8 k = 0#8 := by rw [BitVec.and_twoPow, hclear, if_neg Bool.false_ne_true]
    have hweight : 2 ^ k < 2 ^ 8 := Nat.pow_lt_pow_right (by decide) hk
    calc (x ||| BitVec.twoPow 8 k).toNat
        = (x + BitVec.twoPow 8 k).toNat := by rw [BitVec.add_eq_or_of_and_eq_zero _ _ hdisjoint]
      _ = x.toNat + 2 ^ k * 1 := by
        rw [BitVec.toNat_add_of_and_eq_zero hdisjoint, BitVec.toNat_twoPow, Nat.mod_eq_of_lt hweight, Nat.mul_one]

/-! ### The two shifts; a rotate is a shift and the carry-in at the freed bit -/

theorem toNat_shiftLeft_one (v : Byte) : (v <<< 1).toNat = 2 * v.toNat % 256 := by
  rw [BitVec.toNat_shiftLeft, Nat.shiftLeft_eq, Nat.mul_comm]

theorem toNat_ushiftRight_one (v : Byte) : (v >>> 1).toNat = v.toNat / 2 := by
  rw [BitVec.toNat_ushiftRight, Nat.shiftRight_one]

theorem rol_result_toNat (v : Byte) (cin : Bool) : (rol v cin).result.toNat = 2 * v.toNat % 256 + cin.toNat := by
  have hclear : (v <<< 1).getLsbD 0 = false := by simp
  rw [rol, toNat_or_flagBit (by decide) hclear, toNat_shiftLeft_one, Nat.pow_zero, Nat.one_mul]

theorem ror_result_toNat (v : Byte) (cin : Bool) : (ror v cin).result.toNat = v.toNat / 2 + 128 * cin.toNat := by
  have hclear : (v >>> 1).getLsbD 7 = false := by simp
  rw [ror, toNat_or_flagBit (by decide) hclear, toNat_ushiftRight_one]
  norm_num

/-! ### Increment and decrement -/

theorem incByte_toNat (v : Byte) : (incByte v).toNat = (v.toNat + 1) % 256 := BitVec.toNat_add v 1#8

theorem decByte_toNat (v : Byte) : (decByte v).toNat = (v.toNat + 255) % 256 := by
  rw [decByte, BitVec.toNat_sub, Nat.add_comm]
  rfl

/-- Settles O23: each function's result and carry, from the two shifts and the two end bits on numbers. -/
theorem shiftsAndStepsOnNumbers : Obligations.ShiftsAndStepsOnNumbers := by
  unfold Obligations.ShiftsAndStepsOnNumbers
  intro v cin
  refine ⟨?asl, ?lsr, ?rol, ?ror, incByte_toNat v, decByte_toNat v⟩
  case asl => exact Prod.ext (toNat_shiftLeft_one v) (getLsbD_seven v)
  case lsr => exact Prod.ext (toNat_ushiftRight_one v) (getLsbD_zero_eq v)
  case rol => exact Prod.ext (rol_result_toNat v cin) (getLsbD_seven v)
  case ror => exact Prod.ext (ror_result_toNat v cin) (getLsbD_zero_eq v)

end Sys2Proof.Machine
end

section
/-! PROOFS, family 42_execution_engine.md. O42: the stack primitives (rules R125 to R128). -/

namespace Sys2Proof.Machine

/-! ### The stack slots of the rules, on numbers, are the addresses of stack pointers -/

/-- The slot `k` bytes above a stack pointer, wrapped within the stack page (rules R24, R48). -/
theorem ofNat_slotAbove (sp : Byte) (k : Nat) :
    BitVec.ofNat 16 (0x0100 + (sp.toNat + k) % 256) = stackAddress (sp + BitVec.ofNat 8 k) := by
  apply BitVec.eq_of_toNat_eq
  rw [stackAddress_toNat, BitVec.toNat_add, BitVec.toNat_ofNat, BitVec.toNat_ofNat]
  omega

/-- The slot `k` bytes below the stack pointer. -/
theorem stackSlot_eq {k : Nat} (hk : k ≤ 256) (s : State) : stackSlot k s = stackAddress (s.sp - BitVec.ofNat 8 k) := by
  apply BitVec.eq_of_toNat_eq
  rw [stackSlot, stackAddress_toNat, BitVec.toNat_sub, BitVec.toNat_ofNat, BitVec.toNat_ofNat]
  omega

theorem stackSlot_zero (s : State) : stackSlot 0 s = stackAddress s.sp :=
  (stackSlot_eq (by decide) s).trans (congrArg stackAddress (BitVec.sub_zero s.sp))

theorem stackSlot_one (s : State) : stackSlot 1 s = stackAddress (s.sp - 1#8) := stackSlot_eq (by decide) s

/-- A number added to a word's value wraps as the sum of words does. -/
theorem ofNat_toNat_add {w : Nat} (p : BitVec w) (n : Nat) : BitVec.ofNat w (p.toNat + n) = p + BitVec.ofNat w n := by
  rw [BitVec.ofNat_add, BitVec.ofNat_toNat, BitVec.setWidth_eq]

theorem add_one_add_one (sp : Byte) : sp + 1#8 + 1#8 = sp + 2#8 := BitVec.add_assoc sp 1#8 1#8

theorem sp_ne_sub_one (sp : Byte) : sp ≠ sp - 1#8 := by bv_omega

theorem stackedWord_eq (k : Nat) (s : State) :
    stackedWord k s = wordOf (s.peek (stackAddress (s.sp + BitVec.ofNat 8 (k + 1))))
      (s.peek (stackAddress (s.sp + BitVec.ofNat 8 k))) := by
  rw [stackedWord, ofNat_slotAbove, Nat.add_assoc, ofNat_slotAbove]

theorem pullReads_one (s : State) :
    pullReads 1 s = [.read (stackAddress (s.sp + 1#8)) (s.peek (stackAddress (s.sp + 1#8)))] := by
  simp only [← ofNat_slotAbove]
  rfl

theorem pullReads_two (s : State) :
    pullReads 2 s = [.read (stackAddress (s.sp + 1#8)) (s.peek (stackAddress (s.sp + 1#8))),
      .read (stackAddress (s.sp + 2#8)) (s.peek (stackAddress (s.sp + 2#8)))] := by
  simp only [← ofNat_slotAbove]
  rfl

/-! ### Each primitive on numbers -/

theorem push_storesByte (v : Byte) (s : State) : StoresByte (stackSlot 0 s) v s (push v s) := by
  rw [stackSlot_zero]
  exact memWrite_storesByte (stackAddress s.sp) v s

theorem push_sp_toNat (v : Byte) (s : State) : (push v s).sp.toNat = (s.sp.toNat + 255) % 256 := by
  rw [push_eq, BitVec.toNat_sub, Nat.add_comm]
  rfl

theorem push_bus (v : Byte) (s : State) : (push v s).bus = s.bus ++ [.write (stackSlot 0 s) v] := by
  rw [stackSlot_zero, push_eq]

theorem pull_fst (s : State) : (pull s).1 = s.peek (BitVec.ofNat 16 (0x0100 + (s.sp.toNat + 1) % 256)) := by
  rw [ofNat_slotAbove, pull_eq]

theorem pull_snd (s : State) :
    (pull s).2 = { s with sp := BitVec.ofNat 8 (s.sp.toNat + 1), bus := s.bus ++ pullReads 1 s } := by
  rw [ofNat_toNat_add, pullReads_one, pull_eq]

theorem push16_sp_toNat (w : Address) (s : State) : (push16 w s).sp.toNat = (s.sp.toNat + 254) % 256 := by
  rw [push16, push_sp_toNat, push_sp_toNat]
  omega

/-- The two bytes `Push16` stores: the high byte at the stack pointer, the low byte below it (rule R127). -/
theorem peek_push16 (w : Address) (s : State) (b : Address) :
    (push16 w s).peek b = if b = stackSlot 1 s then loByte w else if b = stackSlot 0 s then hiByte w else s.peek b := by
  rw [stackSlot_one, stackSlot_zero, push16_eq]
  simp only [State.peek, Memory.read_write]

/-- The two slots of `Push16` differ, at every stack pointer. -/
theorem stackSlot_zero_ne_one (s : State) : stackSlot 0 s ≠ stackSlot 1 s := by
  rw [stackSlot_zero, stackSlot_one, ne_eq, stackAddress_inj]
  exact sp_ne_sub_one s.sp

theorem pull16_fst (s : State) : (pull16 s).1 = stackedWord 1 s := by
  rw [stackedWord_eq, pull16_eq, add_one_add_one]

theorem pull16_snd (s : State) :
    (pull16 s).2 = { s with sp := BitVec.ofNat 8 (s.sp.toNat + 2), bus := s.bus ++ pullReads 2 s } := by
  rw [ofNat_toNat_add, pullReads_two, pull16_eq, add_one_add_one]

theorem push16_sp_add_one (w : Address) (s : State) : (push16 w s).sp + 1#8 = s.sp - 1#8 := by
  rw [push16_eq, BitVec.sub_add_cancel]

theorem push16_sp_add_two (w : Address) (s : State) : (push16 w s).sp + 2#8 = s.sp := by
  rw [← add_one_add_one, push16_sp_add_one, BitVec.sub_add_cancel]

/-- The round trip of rule R128: the pulled bytes are those `Push16` stored, in the order that gives the word back. -/
theorem pull16_push16_fst (w : Address) (s : State) : (pull16 (push16 w s)).1 = w := by
  rw [pull16_fst, stackedWord_eq, push16_sp_add_one, push16_sp_add_two, ← stackSlot_zero, ← stackSlot_one,
    peek_push16, peek_push16, if_neg (stackSlot_zero_ne_one s), if_pos rfl, if_pos rfl, wordOf_hi_lo]

theorem pull16_push16_sp (w : Address) (s : State) : (pull16 (push16 w s)).2.sp = s.sp := by
  rw [pull16_snd, ofNat_toNat_add, push16_sp_add_two]

/-- Settles O42: each clause is the lemma of its primitive; the two slots of `Push16` differ, so neither byte overwrites
the other and `Pull16` finds both. -/
theorem stackPrimitives : Obligations.StackPrimitives := by
  unfold Obligations.StackPrimitives
  refine ⟨fun v s => ⟨push_storesByte v s, push_sp_toNat v s, push_bus v s, rfl, rfl⟩,
    fun s => ⟨pull_fst s, pull_snd s⟩, fun w s => ⟨?high, ?low, push16_sp_toNat w s, ?others⟩,
    fun s => ⟨pull16_fst s, pull16_snd s⟩, fun w s => ⟨pull16_push16_fst w s, pull16_push16_sp w s⟩⟩
  case high => rw [peek_push16, if_neg (stackSlot_zero_ne_one s), if_pos rfl]
  case low => rw [peek_push16, if_pos rfl]
  case others =>
    intro b hhigh hlow
    rw [peek_push16, if_neg hlow, if_neg hhigh]

end Sys2Proof.Machine
end

section
/-! PROOFS, family 42_execution_engine.md. O12: the program counter after an instruction (rule R123). -/

namespace Sys2Proof.Machine

/-! ### The branch target -/

/-- The target on integers is the wrapping sum with the sign-extended offset (rules R95, R96). -/
theorem relativeTarget_eq_branchTarget (len : Nat) (off : Byte) (s : State) :
    relativeTarget len off s = branchTarget len off s := by
  rw [relativeTarget, BitVec.ofInt_add, BitVec.ofInt_add, BitVec.ofInt_natCast, BitVec.ofInt_natCast,
    BitVec.ofNat_toNat, BitVec.setWidth_eq]
  rfl

/-! ### The target of each control transfer -/

theorem jumpTo_next (m : MemOperand) (s : State) : (jumpTo m s).next = some (operandAddress m s) := rfl

theorem callSubroutine_next (m : MemOperand) (s : State) : (callSubroutine m s).next = some (operandAddress m s) := rfl

theorem returnFromSubroutine_next (s : State) : (returnFromSubroutine s).next = some (stackedWord 1 s + 1#16) :=
  congrArg (fun w => some (w + 1#16)) (pull16_fst s)

theorem add_one_add_one_add_one (sp : Byte) : sp + 1#8 + 1#8 + 1#8 = sp + 3#8 := by
  rw [add_one_add_one]
  exact BitVec.add_assoc sp 1#8 2#8

theorem returnFromInterrupt_fst (s : State) : (returnFromInterrupt s).1 = stackedWord 2 s := by
  rw [stackedWord_eq, returnFromInterrupt_eq, add_one_add_one_add_one, add_one_add_one]

theorem interruptReturn_next (s : State) : (interruptReturn s).next = some (stackedWord 2 s) :=
  congrArg some (returnFromInterrupt_fst s)

theorem softwareInterrupt_next (s : State) : (softwareInterrupt s).next = some (s.peek16 0xFFFE#16) := rfl

/-- A branch on a flag goes to its target exactly when its condition holds (rule R203). -/
theorem branchIf_next_getD (cond : Bool) (off : Byte) (s : State) (following : Address) :
    (branchIf cond off s).next.getD following = if cond then relativeTarget 2 off s else following := by
  rw [relativeTarget_eq_branchTarget]
  cases cond <;> rfl

/-- A branch on a bit of the zero page goes to its target exactly when the bit is the one it tests for (rules R213, R214). -/
theorem branchOnBit_next_getD (n : Fin 8) (b : Bool) (zz off : Byte) (s : State) (following : Address) :
    (branchOnBit n b zz off s).next.getD following =
      if (s.peek (zext16 zz)).getLsbD n.val = b then relativeTarget 3 off s else following := by
  rw [relativeTarget_eq_branchTarget]
  exact apply_ite (fun e : Executed => e.next.getD following) _ _ _

theorem branchBitReset_next_getD (n : Fin 8) (zz off : Byte) (s : State) (following : Address) :
    (branchBitReset n zz off s).next.getD following =
      if !(s.peek (zext16 zz)).getLsbD n.val then relativeTarget 3 off s else following := by
  rw [branchBitReset, branchOnBit_next_getD]
  simp only [Bool.not_eq_true']

/-! ### Every behaviour against rule R123 -/

/-- The program counter a behaviour leaves is that of rule R123: the first four groups transfer no control, the others go
where their lemma says. -/
theorem next_getD_eq_pcAfter {i : Instr} {b : State → Executed} (h : behaviourOf i.mnemonic i.operand = some b)
    (s : State) : (b s).next.getD (BitVec.ofNat 16 (s.pc.toNat + i.length)) = pcAfter i s := by
  unfold pcAfter
  generalize i.mnemonic = mn, i.operand = o at h ⊢
  cases mn with
  | lda | ldx | ldy | sta | stx | sty | stz | adc | sbc | and | ora | eor | cmp | cpx | cpy | tsb | trb | rmb | smb =>
    obtain ⟨m, rfl, rfl⟩ := onMem_eq_some h
    rfl
  | bit =>
    obtain ⟨m, rfl, rfl⟩ := onMem_eq_some h
    cases m <;> rfl
  | inc | dec | asl | lsr | rol | ror =>
    obtain ⟨rfl, rfl⟩ | ⟨m, rfl, rfl⟩ := onAccOrMem_eq_some h <;> rfl
  | tax | tay | txa | tya | tsx | txs | inx | iny | dex | dey | pha | phx | phy | php | pla | plx | ply | plp | clc | sec
  | cli | sei | cld | sed | clv | nop =>
    obtain ⟨rfl, rfl⟩ := onImplied_eq_some h
    rfl
  | jmp =>
    obtain ⟨m, rfl, rfl⟩ := onMem_eq_some h
    rw [jumpTo_next, Option.getD_some]
  | jsr =>
    obtain ⟨m, rfl, rfl⟩ := onMem_eq_some h
    rw [callSubroutine_next, Option.getD_some]
  | rts =>
    obtain ⟨rfl, rfl⟩ := onImplied_eq_some h
    rw [returnFromSubroutine_next, Option.getD_some]
  | rti =>
    obtain ⟨rfl, rfl⟩ := onImplied_eq_some h
    rw [interruptReturn_next, Option.getD_some]
  | brk =>
    obtain ⟨rfl, rfl⟩ := onImplied_eq_some h
    rw [softwareInterrupt_next, Option.getD_some]
  | bpl | bmi | bvc | bvs | bcc | bcs | bne | beq | bra =>
    obtain ⟨off, rfl, rfl⟩ := onRelative_eq_some h
    exact branchIf_next_getD _ off s _
  | bbr n =>
    obtain ⟨zz, off, rfl, rfl⟩ := onBit_eq_some h
    exact branchBitReset_next_getD n zz off s _
  | bbs n =>
    obtain ⟨zz, off, rfl, rfl⟩ := onBit_eq_some h
    exact branchOnBit_next_getD n true zz off s _
  | undefined => cases h

/-- The engine's program counter (rule R120, step 5): the behaviour's target, or else the next instruction. -/
theorem pc_of_runOpcode {op : Byte} {behaviour : State → Executed} {s t : State}
    (h : runOpcode op behaviour s = .next t) :
    t.pc = (behaviour s).next.getD (BitVec.ofNat 16 (s.pc.toNat + (descriptor op).length)) := by
  rw [ofNat_toNat_add]
  cases h
  rfl

/-- Settles O12: a completed instruction ran its behaviour, whose program counter is that of rule R123; an undefined opcode
completes nowhere. -/
theorem programCounterAfterInstruction : Obligations.ProgramCounterAfterInstruction := by
  unfold Obligations.ProgramCounterAfterInstruction
  intro i s t hexec
  obtain ⟨b, hb, hrun⟩ | ⟨-, hfault⟩ := exec_cases i s
  · exact (pc_of_runOpcode (hrun.symm.trans hexec)).trans (next_getD_eq_pcAfter hb s)
  · cases hfault.symm.trans hexec

end Sys2Proof.Machine
end

section
/-! PROOFS, family 43_load_store_transfer.md. O25: the stores (rules R143 to R146). -/

namespace Sys2Proof.Machine

/-! ### A defined instruction runs its behaviour -/

/-- The instructions with a behaviour are those with a defined opcode. -/
theorem isSome_behaviourOf (i : Instr) : (behaviourOf i.mnemonic i.operand).isSome = i.wellFormed := by
  cases i <;> simp only [Instr.wellFormed, Instr.mnemonic, Instr.descriptor, Instr.opcode, Instr.operand] <;> rfl

theorem wellFormed_of_ne_undefined {i : Instr} (h : i.mnemonic ≠ .undefined) : i.wellFormed = true := by
  unfold Instr.wellFormed
  split
  next hundef => exact absurd hundef h
  next => rfl

theorem exists_behaviour_of_ne_undefined {i : Instr} (h : i.mnemonic ≠ .undefined) :
    ∃ b, behaviourOf i.mnemonic i.operand = some b :=
  Option.isSome_iff_exists.mp ((isSome_behaviourOf i).trans (wellFormed_of_ne_undefined h))

theorem exec_of_behaviourOf {i : Instr} {b : State → Executed} (h : behaviourOf i.mnemonic i.operand = some b)
    (s : State) : exec i s = runOpcode i.opcode b s := by
  rw [exec_eq_behaviour, h]

/-- An instruction of a mnemonic whose forms all take an effective address has such an operand, and runs its behaviour
on it. -/
theorem exec_of_onMem {i : Instr} {f : MemOperand → State → Executed} (hdefined : i.mnemonic ≠ .undefined)
    (hmem : behaviourOf i.mnemonic i.operand = onMem f i.operand) :
    ∃ m, i.operand = some (.mem m) ∧ ∀ s, exec i s = runOpcode i.opcode (f m) s := by
  obtain ⟨b, hb⟩ := exists_behaviour_of_ne_undefined hdefined
  obtain ⟨m, hm, rfl⟩ := onMem_eq_some (hmem.symm.trans hb)
  exact ⟨m, hm, exec_of_behaviourOf hb⟩

/-! ### Every store is `storeByte` of its register -/

/-- A store makes its pointer reads, then the one write at `EA`, and changes nothing else (rule R99). -/
theorem storeByte_eq (v : Byte) (m : MemOperand) (s : State) :
    storeByte v m s = .plain { s with
      mem := s.mem.write (operandAddress m s) v
      bus := s.bus ++ pointerReads m s ++ [.write (operandAddress m s) v] } := by
  rw [storeByte, effectiveAddress_eq]
  rfl

/-- A store run for its opcode: with no result byte, step 4 of rule R120 leaves the flags. -/
theorem runOpcode_storeByte (op : Byte) (value : State → Byte) (m : MemOperand) (s : State) :
    runOpcode op (fun s => storeByte (value s) m s) s = .next { s with
      mem := s.mem.write (operandAddress m s) (value s)
      bus := s.bus ++ pointerReads m s ++ [.write (operandAddress m s) (value s)]
      pc := s.pc + BitVec.ofNat 16 (descriptor op).length
      cyc := s.cyc + BitVec.ofNat 64 (descriptor op).baseCycles } := by
  simp only [runOpcode_eq, storeByte_eq]
  rfl

/-- A mnemonic stores by its rule when its behaviour is `storeByte` and `rows` are its rows of the decoder table. -/
theorem storeRule_of_storeByte {mn : Mnemonic} {rows : List (Byte × Mode)} {value : State → Byte}
    (hdefined : mn ≠ .undefined) (hmem : ∀ o, behaviourOf mn o = onMem (fun m s => storeByte (value s) m s) o)
    (hrows : ∀ op, (descriptor op).mnemonic = mn → ∃ p ∈ rows, op = p.1 ∧ (descriptor op).mode = some p.2) :
    StoreRule mn rows value := by
  rintro i s rfl
  obtain ⟨m, hm, hexec⟩ := exec_of_onMem hdefined (hmem i.operand)
  refine ⟨hrows i.opcode rfl, m, hm, _, (hexec s).trans (runOpcode_storeByte i.opcode value m s), ?_,
    rfl, rfl, rfl, rfl, rfl, rfl, rfl, rfl⟩
  rintro _ rfl
  exact ⟨memWrite_storesByte (operandAddress m s) (value s) s, rfl⟩

/-- Settles O25: each mnemonic stores by `storeByte`, and the decoder table holds the rows listed for it. -/
theorem storesWriteOneByte : Obligations.StoresWriteOneByte := by
  unfold Obligations.StoresWriteOneByte
  refine ⟨?sta, ?stx, ?sty, ?stz⟩
  case sta => exact storeRule_of_storeByte (by decide) (fun _ => rfl) (by decide)
  case stx => exact storeRule_of_storeByte (by decide) (fun _ => rfl) (by decide)
  case sty => exact storeRule_of_storeByte (by decide) (fun _ => rfl) (by decide)
  case stz => exact storeRule_of_storeByte (by decide) (fun _ => rfl) (by decide)

end Sys2Proof.Machine
end

section
/-! PROOFS, family 43_load_store_transfer.md. O26: the register transfers (rules R147 to R152). -/

namespace Sys2Proof.Machine

theorem flagMask_of_mem_nzMnemonics {i : Instr} (h : i.mnemonic ∈ nzMnemonics) : (descriptor i.opcode).flagMask = .nz :=
  (descriptor_flagMask i.opcode).trans (flagMaskOf_of_mem_nzMnemonics h _)

/-- Steps 3 to 5 of rule R120 on a behaviour with the result byte `r`, under the mask `NZ`. -/
theorem runOpcode_withResult {op : Byte} (hmask : (descriptor op).flagMask = .nz) (w : State → State)
    (r : State → Byte) (s : State) :
    runOpcode op (fun s => .withResult (w s) (r s)) s = .next { w s with
      flags := resultFlags (r s) (w s).flags
      pc := s.pc + BitVec.ofNat 16 (descriptor op).length
      cyc := (w s).cyc + BitVec.ofNat 64 (descriptor op).baseCycles } := by
  rw [runOpcode_eq, hmask, ← setNZ_nz]
  rfl

/-- A register rule from the next state of `exec`: the registers of `w s`, the flags of `flags s`, and the rest as
step 5 of rule R120 leaves it. -/
theorem registerRule_of_exec {i : Instr} {writes : State → State → Prop} {flags : State → Flags} (w : State → State)
    (hexec : ∀ s, exec i s = .next { s with
      a := (w s).a, x := (w s).x, y := (w s).y, sp := (w s).sp, flags := flags s
      pc := s.pc + BitVec.ofNat 16 i.length, cyc := s.cyc + BitVec.ofNat 64 i.baseCycles })
    (hwrites : ∀ s t, t.a = (w s).a → t.x = (w s).x → t.y = (w s).y → t.sp = (w s).sp → writes s t) :
    RegisterRule i i.opcode writes flags :=
  ⟨rfl, fun s => ⟨_, hexec s, hwrites s _ rfl rfl rfl rfl, rfl, rfl, fun _ => rfl, ⟨rfl, rfl⟩, rfl⟩⟩

/-- A register rule from a behaviour that writes registers only and has a result byte, under the mask `NZ`. -/
theorem registerRule_of_withResult {i : Instr} {writes : State → State → Prop} {r : State → Byte} (w : State → State)
    (hb : behaviourOf i.mnemonic i.operand = some fun s => .withResult (w s) (r s)) (hnz : i.mnemonic ∈ nzMnemonics)
    (hframe : ∀ s, w s = { s with a := (w s).a, x := (w s).x, y := (w s).y, sp := (w s).sp })
    (hwrites : ∀ s t, t.a = (w s).a → t.x = (w s).x → t.y = (w s).y → t.sp = (w s).sp → writes s t) :
    RegisterRule i i.opcode writes fun s => resultFlags (r s) s.flags := by
  refine registerRule_of_exec w (fun s => ?_) hwrites
  rw [exec_of_behaviourOf hb, runOpcode_withResult (flagMask_of_mem_nzMnemonics hnz), hframe s]
  rfl

/-- Settles O26: each transfer writes one register, and the first five have the byte they copy as their result. -/
theorem transfersCopyOneRegister : Obligations.TransfersCopyOneRegister := by
  unfold Obligations.TransfersCopyOneRegister
  refine ⟨?tax, ?tay, ?txa, ?tya, ?tsx, ?txs⟩
  case tax =>
    exact registerRule_of_withResult (fun s => s.setX s.a) rfl (by decide) (fun _ => rfl)
      fun _ _ ha hx hy hsp => ⟨hx, ha, hy, hsp⟩
  case tay =>
    exact registerRule_of_withResult (fun s => s.setY s.a) rfl (by decide) (fun _ => rfl)
      fun _ _ ha hx hy hsp => ⟨hy, ha, hx, hsp⟩
  case txa =>
    exact registerRule_of_withResult (fun s => s.setA s.x) rfl (by decide) (fun _ => rfl)
      fun _ _ ha hx hy hsp => ⟨ha, hx, hy, hsp⟩
  case tya =>
    exact registerRule_of_withResult (fun s => s.setA s.y) rfl (by decide) (fun _ => rfl)
      fun _ _ ha hx hy hsp => ⟨ha, hx, hy, hsp⟩
  case tsx =>
    exact registerRule_of_withResult (fun s => s.setX s.sp) rfl (by decide) (fun _ => rfl)
      fun _ _ ha hx hy hsp => ⟨hx, ha, hy, hsp⟩
  case txs =>
    exact registerRule_of_exec (fun s => s.setSp s.x) (fun _ => rfl)
      fun _ _ ha hx hy hsp => ⟨hsp, ha, hx, hy⟩

end Sys2Proof.Machine
end

section
/-! PROOFS, family 44_arithmetic_logic.md. O31: `TSB` and `TRB` (rules R169, R170), on what every read-modify-write of the
byte at `EA` does. -/

namespace Sys2Proof.Machine

/-! ### A read-modify-write of the byte at `EA` -/

/-- The state after step 3 of a read-modify-write: the byte `v` at `EA` has become `value v` and the flags `flags v`, with
the pointer reads, one read and one write on the bus. -/
def modifiedByte (value : Byte → Byte) (flags : Byte → Flags) (m : MemOperand) (s : State) : State :=
  { s with
    mem := s.mem.write (operandAddress m s) (value (s.peek (operandAddress m s)))
    flags := flags (s.peek (operandAddress m s))
    bus := s.bus ++ pointerReads m s ++ [.read (operandAddress m s) (s.peek (operandAddress m s)),
      .write (operandAddress m s) (value (s.peek (operandAddress m s)))] }

/-- An instruction that reaches `modifiedByte` before step 5 of rule R120 modifies the byte as `ModifiesByte` asks. -/
theorem modifiesByte_of_exec {i : Instr} {m : MemOperand} {s : State} {value : Byte → Byte} {flags : Byte → Flags}
    (hexec : exec i s = .next { modifiedByte value flags m s with
      pc := s.pc + BitVec.ofNat 16 i.length, cyc := s.cyc + BitVec.ofNat 64 i.baseCycles }) :
    ModifiesByte i m s value flags := by
  refine ⟨_, hexec, ?_, rfl, rfl, rfl, rfl, rfl, rfl, rfl⟩
  rintro _ rfl
  exact ⟨memWrite_storesByte (operandAddress m s) _ s, rfl, rfl⟩

/-! ### `TSB` and `TRB` have no result byte -/

theorem testAndWrite_eq (op : Byte → Byte → Byte) (m : MemOperand) (s : State) :
    testAndWrite op m s = .plain
      (modifiedByte (fun v => op v s.a) (fun v => { s.flags with z := decide (s.a &&& v = 0#8) }) m s) := by
  rw [testAndWrite, effectiveAddress_eq, modifiedByte, List.append_cons]
  rfl

/-- A mnemonic whose behaviour is `testAndWrite op`, with `rows` its rows of the decoder table: step 4 of rule R120 leaves
the flags, as there is no result byte. -/
theorem modifiesByte_of_testAndWrite {mn : Mnemonic} {rows : List (Byte × Mode)} (op : Byte → Byte → Byte)
    (hdefined : mn ≠ .undefined) (hmem : ∀ o, behaviourOf mn o = onMem (testAndWrite op) o)
    (hrows : ∀ k, (descriptor k).mnemonic = mn → ∃ p ∈ rows, k = p.1 ∧ (descriptor k).mode = some p.2)
    (i : Instr) (s : State) (hmn : i.mnemonic = mn) :
    InRows i rows ∧ ∃ m, i.operand = some (.mem m) ∧
      ModifiesByte i m s (fun v => op v s.a) (fun v => { s.flags with z := decide (s.a &&& v = 0#8) }) := by
  subst hmn
  obtain ⟨m, hm, hexec⟩ := exec_of_onMem hdefined (hmem i.operand)
  refine ⟨hrows i.opcode rfl, m, hm, modifiesByte_of_exec ?_⟩
  rw [hexec, runOpcode_eq, testAndWrite_eq]
  rfl

/-- Settles O31: both are `testAndWrite`; the exclusive or with `0xFF` in rule R170 is the complement of `A`. -/
theorem testAndSetTestAndReset : Obligations.TestAndSetTestAndReset := by
  unfold Obligations.TestAndSetTestAndReset
  refine ⟨?tsb, ?trb⟩
  case tsb => exact modifiesByte_of_testAndWrite (fun v a => v ||| a) (by decide) (fun _ => rfl) (by decide)
  case trb =>
    have hcomplement : ∀ a : Byte, a ^^^ 0xFF#8 = ~~~a := fun _ => BitVec.xor_allOnes
    simp only [hcomplement]
    exact modifiesByte_of_testAndWrite (fun v a => v &&& ~~~a) (by decide) (fun _ => rfl) (by decide)

end Sys2Proof.Machine
end

section
/-! PROOFS, family 44_arithmetic_logic.md. O32: `INC` and `DEC` (rules R171, R172), on what every instruction with an
accumulator form and memory forms does. -/

namespace Sys2Proof.Machine

/-! ### The accumulator form and the memory forms of one mnemonic -/

/-- The operand of an instruction is in the mode of its row of the decoder table (rules R61, R64). -/
theorem map_mode_operand (i : Instr) : i.operand.map Operand.mode = i.mode := by
  cases i <;> simp only [Instr.mode, Instr.descriptor, Instr.opcode, Instr.operand] <;> rfl

theorem mode_of_operand {i : Instr} {o : Operand} (h : i.operand = some o) : i.mode = some o.mode := by
  rw [← map_mode_operand, h, Option.map_some]

theorem mode_ne_acc (m : MemOperand) : m.mode ≠ .acc := by
  cases m <;> exact nofun

/-- An instruction of a mnemonic with an accumulator form and memory forms has such an operand, and runs its behaviour
for it. -/
theorem exec_of_onAccOrMem {i : Instr} {b : State → Executed} {f : MemOperand → State → Executed}
    (hdefined : i.mnemonic ≠ .undefined) (hforms : behaviourOf i.mnemonic i.operand = onAccOrMem b f i.operand) :
    (i.operand = some .acc ∧ ∀ s, exec i s = runOpcode i.opcode b s) ∨
      ∃ m, i.operand = some (.mem m) ∧ ∀ s, exec i s = runOpcode i.opcode (f m) s := by
  obtain ⟨_, hb⟩ := exists_behaviour_of_ne_undefined hdefined
  obtain ⟨hacc, rfl⟩ | ⟨m, hm, rfl⟩ := onAccOrMem_eq_some (hforms.symm.trans hb)
  · exact .inl ⟨hacc, exec_of_behaviourOf hb⟩
  · exact .inr ⟨m, hm, exec_of_behaviourOf hb⟩

/-- A mnemonic under the mask `NZ` modifies by its rule when each of its behaviours turns `v` into the result byte
`value v` with the explicit flags `flags v`, and `accOp` and `rows` are its rows of the decoder table. -/
theorem modifyRule_of_withResult {mn : Mnemonic} {accOp : Byte} {rows : List (Byte × Mode)}
    {value : State → Byte → Byte} {flags : State → Byte → Flags} {b : State → Executed}
    {f : MemOperand → State → Executed} (hnz : mn ∈ nzMnemonics) (hforms : ∀ o, behaviourOf mn o = onAccOrMem b f o)
    (hb : ∀ s, b s = .withResult { s with a := value s s.a, flags := flags s s.a } (value s s.a))
    (hf : ∀ m s, f m s =
      .withResult (modifiedByte (value s) (flags s) m s) (value s (s.peek (operandAddress m s))))
    (hacc : ∀ op, (descriptor op).mnemonic = mn → (descriptor op).mode = some .acc → op = accOp)
    (hrows : ∀ op, (descriptor op).mnemonic = mn → (descriptor op).mode ≠ some .acc →
      ∃ p ∈ rows, op = p.1 ∧ (descriptor op).mode = some p.2) :
    ModifyRule mn accOp rows value fun s v => resultFlags (value s v) (flags s v) := by
  rintro i s rfl
  have hmask := flagMask_of_mem_nzMnemonics hnz
  have hdefined : i.mnemonic ≠ .undefined := fun h => absurd (h ▸ hnz) (by decide)
  obtain ⟨ha, hexec⟩ | ⟨m, hm, hexec⟩ := exec_of_onAccOrMem hdefined (hforms i.operand)
  · have hstep := hexec s
    rw [funext hb, runOpcode_withResult hmask] at hstep
    exact .inl ⟨ha, hacc i.opcode rfl (mode_of_operand ha), _, hstep, rfl, rfl, rfl, rfl, rfl, rfl, fun _ => rfl,
      ⟨rfl, rfl⟩, rfl⟩
  · have hmode : i.mode ≠ some .acc := by
      rw [mode_of_operand hm]
      exact fun h => mode_ne_acc m (Option.some.inj h)
    refine .inr ⟨hrows i.opcode rfl hmode, m, hm, modifiesByte_of_exec ?_⟩
    rw [hexec, funext (hf m), runOpcode_withResult hmask]
    rfl

/-! ### Increment and decrement -/

theorem stepMem_eq (f : Byte → Byte) (m : MemOperand) (s : State) :
    stepMem f m s = .withResult (modifiedByte f (fun _ => s.flags) m s) (f (s.peek (operandAddress m s))) := by
  rw [stepMem, effectiveAddress_eq, modifiedByte, List.append_cons]
  rfl

/-- Rule R113 on numbers is the increment of the byte. -/
theorem ofNat_toNat_add_one (v : Byte) : BitVec.ofNat 8 (v.toNat + 1) = incByte v := ofNat_toNat_add v 1

/-- Rule R113 on numbers: adding 255 is the decrement of the byte. -/
theorem ofNat_toNat_add_255 (v : Byte) : BitVec.ofNat 8 (v.toNat + 255) = decByte v := by
  rw [ofNat_toNat_add, decByte, BitVec.sub_eq_add_neg]
  rfl

/-- Settles O32: both step the byte they read by `incByte` or `decByte`, and write no flag of their own. -/
theorem incrementAndDecrement : Obligations.IncrementAndDecrement := by
  unfold Obligations.IncrementAndDecrement
  simp only [ofNat_toNat_add_one, ofNat_toNat_add_255]
  refine ⟨?inc, ?dec⟩
  case inc =>
    exact modifyRule_of_withResult (by decide) (fun _ => rfl) (fun _ => rfl) (stepMem_eq incByte) (by decide) (by decide)
  case dec =>
    exact modifyRule_of_withResult (by decide) (fun _ => rfl) (fun _ => rfl) (stepMem_eq decByte) (by decide) (by decide)

end Sys2Proof.Machine
end

section
/-! PROOFS, family 44_arithmetic_logic.md. O33: the steps of the index registers (rules R173 to R176). -/

namespace Sys2Proof.Machine

/-- Settles O33: each step writes one register with its result byte, `incByte` or `decByte` of the register. -/
theorem indexRegisterSteps : Obligations.IndexRegisterSteps := by
  unfold Obligations.IndexRegisterSteps
  simp only [ofNat_toNat_add_one, ofNat_toNat_add_255]
  refine ⟨?inx, ?iny, ?dex, ?dey⟩
  case inx =>
    exact registerRule_of_withResult (fun s => s.setX (incByte s.x)) rfl (by decide) (fun _ => rfl)
      fun _ _ ha hx hy hsp => ⟨hx, ha, hy, hsp⟩
  case iny =>
    exact registerRule_of_withResult (fun s => s.setY (incByte s.y)) rfl (by decide) (fun _ => rfl)
      fun _ _ ha hx hy hsp => ⟨hy, ha, hx, hsp⟩
  case dex =>
    exact registerRule_of_withResult (fun s => s.setX (decByte s.x)) rfl (by decide) (fun _ => rfl)
      fun _ _ ha hx hy hsp => ⟨hx, ha, hy, hsp⟩
  case dey =>
    exact registerRule_of_withResult (fun s => s.setY (decByte s.y)) rfl (by decide) (fun _ => rfl)
      fun _ _ ha hx hy hsp => ⟨hy, ha, hx, hsp⟩

end Sys2Proof.Machine
end

section
/-! PROOFS, family 45_shift_bit.md. O34: `ASL`, `LSR`, `ROL`, `ROR` (rules R190 to R193). -/

namespace Sys2Proof.Machine

theorem shiftA_eq (f : Byte → Bool → ShiftResult) (s : State) :
    shiftA f s = .withResult
      { s with a := (f s.a s.flags.c).result, flags := { s.flags with c := (f s.a s.flags.c).carry } }
      (f s.a s.flags.c).result := rfl

theorem shiftMem_eq (f : Byte → Bool → ShiftResult) (m : MemOperand) (s : State) :
    shiftMem f m s = .withResult
      (modifiedByte (fun v => (f v s.flags.c).result) (fun v => { s.flags with c := (f v s.flags.c).carry }) m s)
      (f (s.peek (operandAddress m s)) s.flags.c).result := by
  rw [shiftMem, effectiveAddress_eq, modifiedByte, List.append_cons]
  rfl

/-- A mnemonic under the mask `NZ` shifts by its rule when both its forms shift by `f`, whose result and carry are
those of the rule on numbers, and `accOp` and `rows` are its rows of the decoder table. -/
theorem shiftRule_of_shift {mn : Mnemonic} {accOp : Byte} {rows : List (Byte × Mode)} (f : Byte → Bool → ShiftResult)
    (hnz : mn ∈ nzMnemonics) (hforms : ∀ o, behaviourOf mn o = onAccOrMem (shiftA f) (shiftMem f) o)
    (hresult : ∀ v cin, (f v cin).result.toNat = (shiftNumbers mn v.toNat cin.toNat).1)
    (hcarry : ∀ v cin, (f v cin).carry = (shiftNumbers mn v.toNat cin.toNat).2)
    (hacc : ∀ op, (descriptor op).mnemonic = mn → (descriptor op).mode = some .acc → op = accOp)
    (hrows : ∀ op, (descriptor op).mnemonic = mn → (descriptor op).mode ≠ some .acc →
      ∃ p ∈ rows, op = p.1 ∧ (descriptor op).mode = some p.2) :
    ShiftRule mn accOp rows := by
  unfold ShiftRule
  simp only [← hresult, ← hcarry, BitVec.ofNat_toNat, BitVec.setWidth_eq]
  exact modifyRule_of_withResult hnz hforms (shiftA_eq f) (shiftMem_eq f) hacc hrows

/-- Settles O34: each mnemonic shifts by its function of rule R111, known on numbers from the proof of O23. -/
theorem shiftsAndRotates : Obligations.ShiftsAndRotates := by
  unfold Obligations.ShiftsAndRotates
  refine ⟨?asl, ?lsr, ?rol, ?ror⟩
  case asl =>
    exact shiftRule_of_shift (fun v _ => asl v) (by decide) (fun _ => rfl) (fun v _ => toNat_shiftLeft_one v)
      (fun v _ => getLsbD_seven v) (by decide) (by decide)
  case lsr =>
    exact shiftRule_of_shift (fun v _ => lsr v) (by decide) (fun _ => rfl) (fun v _ => toNat_ushiftRight_one v)
      (fun v _ => getLsbD_zero_eq v) (by decide) (by decide)
  case rol =>
    exact shiftRule_of_shift rol (by decide) (fun _ => rfl) rol_result_toNat
      (fun v _ => getLsbD_seven v) (by decide) (by decide)
  case ror =>
    exact shiftRule_of_shift ror (by decide) (fun _ => rfl) ror_result_toNat
      (fun v _ => getLsbD_zero_eq v) (by decide) (by decide)

end Sys2Proof.Machine
end

section
/-! PROOFS, family 45_shift_bit.md. O35: `RMBn` and `SMBn` (rules R194, R195). -/

namespace Sys2Proof.Machine

/-! ### The bits of the byte written -/

theorem getLsbD_bitMask (n : Fin 8) (k : Nat) : (1#8 <<< n.val).getLsbD k = decide (k = n.val) := by
  rw [← BitVec.twoPow_eq, BitVec.getLsbD_twoPow, decide_eq_true n.isLt, Bool.true_and]
  exact decide_eq_decide.mpr eq_comm

theorem getLsbD_withBit (n : Fin 8) (v : Byte) (k : Nat) :
    (withBit n v).getLsbD k = (v.getLsbD k || decide (k = n.val)) := by
  rw [withBit, BitVec.getLsbD_or, getLsbD_bitMask]

theorem getLsbD_withoutBit (n : Fin 8) (v : Byte) {k : Nat} (hk : k < 8) :
    (withoutBit n v).getLsbD k = (v.getLsbD k && decide (k ≠ n.val)) := by
  rw [withoutBit, BitVec.getLsbD_and, BitVec.getLsbD_not, getLsbD_bitMask, decide_eq_true hk, Bool.true_and, decide_not]

/-! ### The byte at a zero-page address -/

theorem zext16_toNat (b : Byte) : (zext16 b).toNat = b.toNat := BitVec.toNat_setWidth_of_le (by decide)

theorem eq_zp_of_mode {m : MemOperand} (h : m.mode = .zp) : ∃ zz, m = .zp zz := by
  cases m with
  | zp zz => exact ⟨zz, rfl⟩
  | _ => cases h

theorem modifyByte_eq (f : Byte → Byte) (m : MemOperand) (s : State) :
    modifyByte f m s = .plain (modifiedByte f (fun _ => s.flags) m s) := by
  rw [modifyByte, effectiveAddress_eq, modifiedByte, List.append_cons]
  rfl

/-- A mnemonic whose behaviour is `modifyByte f`, with the one row `op` in mode `ZP` in the decoder table. -/
theorem modifiesByte_of_modifyByte {mn : Mnemonic} {op : Byte} {f : Byte → Byte} {i : Instr} (hmn : i.mnemonic = mn)
    (hdefined : mn ≠ .undefined) (hmem : ∀ o, behaviourOf mn o = onMem (modifyByte f) o)
    (hrow : ∀ k, (descriptor k).mnemonic = mn → k = op ∧ (descriptor k).mode = some .zp) (s : State) :
    InRows i [(op, .zp)] ∧ ∃ zz, i.operand = some (.mem (.zp zz)) ∧
      ModifiesByte i (.zp zz) s f (fun _ => s.flags) := by
  subst hmn
  obtain ⟨hop, hmode⟩ := hrow i.opcode rfl
  obtain ⟨m, hm, hexec⟩ := exec_of_onMem hdefined (hmem i.operand)
  obtain ⟨zz, rfl⟩ := eq_zp_of_mode (Option.some.inj ((mode_of_operand hm).symm.trans hmode))
  refine ⟨⟨_, List.mem_singleton_self _, hop, hmode⟩, zz, hm, modifiesByte_of_exec ?_⟩
  rw [hexec, runOpcode_eq, modifyByte_eq]
  rfl

/-! ### The rows of the decoder table -/

theorem rmb_row : ∀ (n : Fin 8) (op : Byte), (descriptor op).mnemonic = .rmb n →
    op = BitVec.ofNat 8 (0x07 + 16 * n.val) ∧ (descriptor op).mode = some .zp := by decide

theorem smb_row : ∀ (n : Fin 8) (op : Byte), (descriptor op).mnemonic = .smb n →
    op = BitVec.ofNat 8 (0x87 + 16 * n.val) ∧ (descriptor op).mode = some .zp := by decide

/-- Settles O35: both are `modifyByte`, of `withoutBit` and of `withBit`, whose bits are those of the rules. -/
theorem memoryBitInstructions : Obligations.MemoryBitInstructions := by
  unfold Obligations.MemoryBitInstructions
  refine fun n i s => ⟨fun hrmb => ?rmb, fun hsmb => ?smb⟩
  case rmb =>
    obtain ⟨hrow, zz, hzz, hmodifies⟩ := modifiesByte_of_modifyByte hrmb nofun (fun _ => rfl) (rmb_row n) s
    exact ⟨hrow, zz, withoutBit n, hzz, zext16_toNat zz, fun _ hk => getLsbD_withoutBit n _ hk, hmodifies⟩
  case smb =>
    obtain ⟨hrow, zz, hzz, hmodifies⟩ := modifiesByte_of_modifyByte hsmb nofun (fun _ => rfl) (smb_row n) s
    exact ⟨hrow, zz, withBit n, hzz, zext16_toNat zz, fun _ _ => getLsbD_withBit n _ _, hmodifies⟩

end Sys2Proof.Machine
end

section
/-! PROOFS, family 46_control_transfer.md. O36: `JMP` (rule R200), on what every control transfer that only reads the bus
leaves. -/

namespace Sys2Proof.Machine

/-- A behaviour that has no result byte and does nothing but the bus reads `reads` completes, at its target or else at the
next instruction. -/
theorem completes_of_reads {i : Instr} {b : State → Executed} {s : State} {reads : List BusAccess}
    (hexec : exec i s = runOpcode i.opcode b s) (hresult : (b s).result = none)
    (hstate : (b s).state = { s with bus := s.bus ++ reads }) :
    Completes i s fun t => GoesTo ((b s).next.getD (s.pc + BitVec.ofNat 16 i.length)) i s t ∧
      OnlyControlMoves s t ∧ t.bus = s.bus ++ reads := by
  rw [runOpcode_eq, hresult, hstate] at hexec
  exact ⟨_, hexec, ⟨rfl, rfl⟩, ⟨rfl, rfl, rfl, rfl, rfl, rfl, fun _ => rfl⟩, rfl⟩

theorem jumpTo_state (m : MemOperand) (s : State) : (jumpTo m s).state = { s with bus := s.bus ++ pointerReads m s } := by
  rw [jumpTo, effectiveAddress_eq]
  rfl

theorem jmp_rows : ∀ op : Byte, (descriptor op).mnemonic = .jmp →
    ∃ p ∈ [(0x4C#8, Mode.abs), (0x6C#8, .ind), (0x7C#8, .absindx)], op = p.1 ∧ (descriptor op).mode = some p.2 := by decide

/-- Settles O36: the behaviour of `JMP` is the resolver alone, with `EA` as its target. -/
theorem jumpGoesToOperandAddress : Obligations.JumpGoesToOperandAddress := by
  unfold Obligations.JumpGoesToOperandAddress
  intro i s hjmp
  obtain ⟨m, hm, hexec⟩ : ∃ m, i.operand = some (.mem m) ∧ ∀ s, exec i s = runOpcode i.opcode (jumpTo m) s :=
    exec_of_onMem (by rw [hjmp]; exact nofun) (by rw [hjmp]; rfl)
  exact ⟨jmp_rows i.opcode hjmp, m, hm, completes_of_reads (hexec s) rfl (jumpTo_state m s)⟩

end Sys2Proof.Machine
end

section
/-! PROOFS, family 46_control_transfer.md. O41: `BBRn` and `BBSn` (rules R213, R214). -/

namespace Sys2Proof.Machine

/-! ### The behaviour of both: one read, and no other effect but the branch -/

/-- An instruction of a mnemonic whose forms all take a zero-page address and an offset has such an operand, and runs its
behaviour on them. -/
theorem exec_of_onBit {i : Instr} {f : Byte → Byte → State → Executed} (hdefined : i.mnemonic ≠ .undefined)
    (hbit : behaviourOf i.mnemonic i.operand = onBit f i.operand) :
    ∃ zz off, i.operand = some (.zprel zz off) ∧ ∀ s, exec i s = runOpcode i.opcode (f zz off) s := by
  obtain ⟨_, hb⟩ := exists_behaviour_of_ne_undefined hdefined
  obtain ⟨zz, off, hzprel, rfl⟩ := onBit_eq_some (hbit.symm.trans hb)
  exact ⟨zz, off, hzprel, exec_of_behaviourOf hb⟩

theorem branchOnBit_result (n : Fin 8) (b : Bool) (zz off : Byte) (s : State) :
    (branchOnBit n b zz off s).result = none := by
  dsimp only [branchOnBit]
  split <;> rfl

theorem branchOnBit_state (n : Fin 8) (b : Bool) (zz off : Byte) (s : State) :
    (branchOnBit n b zz off s).state =
      { s with bus := s.bus ++ [.read (zext16 zz) (s.peek (zext16 zz))] } := by
  dsimp only [branchOnBit]
  split <;> rfl

/-- To continue is to go to the next instruction, so the target of a branch can be chosen first. -/
theorem goesTo_ite_iff (c : Prop) [Decidable c] (target : Address) (i : Instr) (s t : State) :
    GoesTo (if c then target else s.pc + BitVec.ofNat 16 i.length) i s t ↔
      if c then GoesTo target i s t else Continues i s t :=
  iff_of_eq (apply_ite (fun a => GoesTo a i s t) c _ _)

theorem ofNat_toNat_eq_zext16 (zz : Byte) : BitVec.ofNat 16 zz.toNat = zext16 zz := BitVec.ofNat_toNat 16 zz

/-- A mnemonic whose behaviour is `branchOnBit n b`, with the one row `op` in mode `ZPREL` in the decoder table, branches
exactly when bit `n` of the zero-page byte is `b`. -/
theorem completes_of_branchOnBit {mn : Mnemonic} {op : Byte} {n : Fin 8} {b : Bool} {i : Instr} (hmn : i.mnemonic = mn)
    (hdefined : mn ≠ .undefined) (hbit : ∀ o, behaviourOf mn o = onBit (branchOnBit n b) o)
    (hrow : ∀ k, (descriptor k).mnemonic = mn → k = op ∧ (descriptor k).mode = some .zprel) (s : State) :
    InRows i [(op, .zprel)] ∧ ∃ zz off, i.operand = some (.zprel zz off) ∧ Completes i s fun t =>
      (if (s.peek (BitVec.ofNat 16 zz.toNat)).toNat.testBit n.val = b then GoesTo (relativeTarget 3 off s) i s t
        else Continues i s t) ∧
      OnlyControlMoves s t ∧
      t.bus = s.bus ++ [.read (BitVec.ofNat 16 zz.toNat) (s.peek (BitVec.ofNat 16 zz.toNat))] := by
  subst hmn
  obtain ⟨hop, hmode⟩ := hrow i.opcode rfl
  obtain ⟨zz, off, hzprel, hexec⟩ := exec_of_onBit hdefined (hbit i.operand)
  refine ⟨⟨_, List.mem_singleton_self _, hop, hmode⟩, zz, off, hzprel, ?_⟩
  have hcompletes := completes_of_reads (hexec s) (branchOnBit_result n b zz off s) (branchOnBit_state n b zz off s)
  simp only [branchOnBit_next_getD, goesTo_ite_iff] at hcompletes
  simpa only [ofNat_toNat_eq_zext16, BitVec.testBit_toNat] using hcompletes

/-! ### The rows of the decoder table -/

theorem bbr_row : ∀ (n : Fin 8) (op : Byte), (descriptor op).mnemonic = .bbr n →
    op = BitVec.ofNat 8 (0x0F + 16 * n.val) ∧ (descriptor op).mode = some .zprel := by decide

theorem bbs_row : ∀ (n : Fin 8) (op : Byte), (descriptor op).mnemonic = .bbs n →
    op = BitVec.ofNat 8 (0x8F + 16 * n.val) ∧ (descriptor op).mode = some .zprel := by decide

/-- Settles O41: both are `branchOnBit`, for the bit values 0 and 1. -/
theorem bitBranches : Obligations.BitBranches := by
  unfold Obligations.BitBranches
  exact fun n i s =>
    ⟨fun hbbr => completes_of_branchOnBit hbbr nofun (fun _ => rfl) (bbr_row n) s,
      fun hbbs => completes_of_branchOnBit hbbs nofun (fun _ => rfl) (bbs_row n) s⟩

end Sys2Proof.Machine
end

section
/-! PROOFS, family 47_stack_flag_system.md. O45: the flag instructions and `NOP` (rules R228 to R235). -/

namespace Sys2Proof.Machine

/-- A behaviour that only sets the flags to `flags s`, with no result byte, leaves every register: step 4 of rule R120 does
not run. -/
theorem registerRule_of_setFlags {i : Instr} {flags : State → Flags}
    (hb : behaviourOf i.mnemonic i.operand = some fun s => .plain (s.setFlags (flags s))) :
    RegisterRule i i.opcode (fun s t => t.a = s.a ∧ t.x = s.x ∧ t.y = s.y ∧ t.sp = s.sp) flags := by
  refine registerRule_of_exec id (fun s => ?_) fun _ _ ha hx hy hsp => ⟨ha, hx, hy, hsp⟩
  rw [exec_of_behaviourOf hb, runOpcode_eq]
  rfl

/-- Settles O45: each behaviour sets the flags and nothing else; that of `NOP` sets them to what they are. -/
theorem flagInstructionsAndNop : Obligations.FlagInstructionsAndNop := by
  unfold Obligations.FlagInstructionsAndNop
  refine ⟨?clc, ?sec, ?cli, ?sei, ?cld, ?sed, ?clv, ?nop⟩ <;> exact registerRule_of_setFlags rfl

end Sys2Proof.Machine
end

section
/-! PROOFS, family 47_stack_flag_system.md. O44: the pulls (rules R224 to R227). -/

namespace Sys2Proof.Machine

/-- `Unpack` on numbers (rule R108): a bit of a byte is that bit of its number. -/
theorem unpack_eq_statusFlags (b : Byte) : unpack b = statusFlags b := by
  simp only [unpack, statusFlags, BitVec.testBit_toNat]

/-- A pull rule from the next state of `exec`: the registers of `w v s` and the flags of `flags s v` for the pulled byte
`v`, and the rest as `Pull` and step 5 of rule R120 leave it. -/
theorem pullRule_of_exec {i : Instr} {writes : State → State → Byte → Prop} {flags : State → Byte → Flags}
    (w : Byte → State → State)
    (hexec : ∀ s, exec i s = .next { (pull s).2 with
      a := (w (pull s).1 s).a, x := (w (pull s).1 s).x, y := (w (pull s).1 s).y, flags := flags s (pull s).1
      pc := s.pc + BitVec.ofNat 16 i.length, cyc := s.cyc + BitVec.ofNat 64 i.baseCycles })
    (hwrites : ∀ s t v, t.a = (w v s).a → t.x = (w v s).x → t.y = (w v s).y → writes s t v) :
    PullRule i i.opcode writes flags := by
  refine ⟨rfl, fun s => ?_⟩
  have hstep := hexec s
  rw [pull_fst, pull_snd] at hstep
  refine ⟨_, hstep, ?_, rfl, rfl, fun _ => rfl, ⟨rfl, rfl⟩, rfl⟩
  rintro _ rfl
  exact ⟨hwrites s _ _ rfl rfl rfl, rfl⟩

/-- A pull rule from a behaviour that writes a register with the pulled byte, which is its result byte, under the mask
`NZ`. -/
theorem pullRule_of_withResult {i : Instr} {writes : State → State → Byte → Prop} (w : Byte → State → State)
    (hb : behaviourOf i.mnemonic i.operand = some fun s => .withResult (w (pull s).1 (pull s).2) (pull s).1)
    (hnz : i.mnemonic ∈ nzMnemonics)
    (hframe : ∀ v s, w v (pull s).2 = { (pull s).2 with a := (w v s).a, x := (w v s).x, y := (w v s).y })
    (hwrites : ∀ s t v, t.a = (w v s).a → t.x = (w v s).x → t.y = (w v s).y → writes s t v) :
    PullRule i i.opcode writes fun s v => resultFlags v s.flags := by
  refine pullRule_of_exec w (fun s => ?_) hwrites
  rw [exec_of_behaviourOf hb, runOpcode_withResult (flagMask_of_mem_nzMnemonics hnz)
    (fun s => w (pull s).1 (pull s).2), hframe]
  rfl

/-- Settles O44: three pulls write a register with their result byte; `PLP` has no result byte, and unpacks the flags. -/
theorem pullInstructions : Obligations.PullInstructions := by
  unfold Obligations.PullInstructions
  refine ⟨?pla, ?plx, ?ply, ?plp⟩
  case pla =>
    exact pullRule_of_withResult (fun v s => s.setA v) rfl (by decide) (fun _ _ => rfl)
      fun _ _ _ ha hx hy => ⟨ha, hx, hy⟩
  case plx =>
    exact pullRule_of_withResult (fun v s => s.setX v) rfl (by decide) (fun _ _ => rfl)
      fun _ _ _ ha hx hy => ⟨hx, ha, hy⟩
  case ply =>
    exact pullRule_of_withResult (fun v s => s.setY v) rfl (by decide) (fun _ _ => rfl)
      fun _ _ _ ha hx hy => ⟨hy, ha, hx⟩
  case plp =>
    simp only [← unpack_eq_statusFlags]
    exact pullRule_of_exec (fun _ s => s) (fun _ => rfl) fun _ _ _ ha hx hy => ⟨ha, hx, hy⟩

end Sys2Proof.Machine
end

section
/-! PROOFS, family 47_stack_flag_system.md. O47: `RTI` (rules R237, R265). -/

namespace Sys2Proof.Machine

theorem pullReads_three (s : State) :
    pullReads 3 s = [.read (stackAddress (s.sp + 1#8)) (s.peek (stackAddress (s.sp + 1#8))),
      .read (stackAddress (s.sp + 2#8)) (s.peek (stackAddress (s.sp + 2#8))),
      .read (stackAddress (s.sp + 3#8)) (s.peek (stackAddress (s.sp + 3#8)))] := by
  simp only [← ofNat_slotAbove]
  rfl

/-- The state after the return, on numbers (rule R265): its three pulls, and the flags of the first pulled byte. -/
theorem returnFromInterrupt_snd (s : State) :
    (returnFromInterrupt s).2 = { s with
      sp := BitVec.ofNat 8 (s.sp.toNat + 3)
      flags := statusFlags (s.peek (BitVec.ofNat 16 (0x0100 + (s.sp.toNat + 1) % 256)))
      depth := s.depth - 1
      bus := s.bus ++ pullReads 3 s } := by
  rw [ofNat_toNat_add, ofNat_slotAbove, pullReads_three, ← unpack_eq_statusFlags, returnFromInterrupt_eq,
    add_one_add_one_add_one, add_one_add_one]

/-- Steps 3 to 5 of rule R120 on a behaviour that transfers control: it has no result byte, so step 4 leaves the flags. -/
theorem exec_of_jump {i : Instr} {w : State → State} {target : State → Address}
    (hb : behaviourOf i.mnemonic i.operand = some fun s => .jump (w s) (target s)) (s : State) :
    exec i s = .next { w s with pc := target s, cyc := (w s).cyc + BitVec.ofNat 64 i.baseCycles } := by
  rw [exec_of_behaviourOf hb, runOpcode_eq]
  rfl

/-- Settles O47: `RTI` is the return of rule R265, with the pulled word as its target. -/
theorem rtiRestoresStatusAndPc : Obligations.RtiRestoresStatusAndPc := by
  unfold Obligations.RtiRestoresStatusAndPc
  refine ⟨rfl, fun s => ?_⟩
  have hexec : exec .rti s = .next { (returnFromInterrupt s).2 with
      pc := (returnFromInterrupt s).1, cyc := (returnFromInterrupt s).2.cyc + 6#64 } :=
    exec_of_jump (w := fun s => (returnFromInterrupt s).2) (target := fun s => (returnFromInterrupt s).1) rfl s
  rw [returnFromInterrupt_fst, returnFromInterrupt_snd] at hexec
  exact ⟨_, hexec, rfl, rfl, rfl, rfl, rfl, rfl, rfl, rfl, fun _ => rfl, rfl⟩

end Sys2Proof.Machine
end

section
/-! PROOFS, family other. O2 and O3: the decoder against the encoder (rules R60 to R63), on the two fields that determine an
instruction, its opcode and its operand. -/

namespace Sys2Proof

/-! ### The operand of a mode -/

/-- The operand of a mode from the two bytes that may follow an opcode (rules R61, R63); a byte the mode does not have is
ignored. -/
def Mode.operandOf (b1 b2 : Byte) : Mode → Operand
  | .imp => .imp
  | .acc => .acc
  | .imm => .mem (.imm b1)
  | .zp => .mem (.zp b1)
  | .zpx => .mem (.zpx b1)
  | .zpy => .mem (.zpy b1)
  | .abs => .mem (.abs (Machine.wordOf b2 b1))
  | .absx => .mem (.absx (Machine.wordOf b2 b1))
  | .absy => .mem (.absy (Machine.wordOf b2 b1))
  | .ind => .mem (.ind (Machine.wordOf b2 b1))
  | .absindx => .mem (.absindx (Machine.wordOf b2 b1))
  | .zpind => .mem (.zpind b1)
  | .zpindx => .mem (.zpindx b1)
  | .zpindy => .mem (.zpindy b1)
  | .rel => .rel b1
  | .zprel => .zprel b1 b2

/-- What an opcode without a mode has for an operand is no condition on the bytes. -/
def IsOperandOf (b1 b2 : Byte) : Option Operand → Prop
  | some o => o = o.mode.operandOf b1 b2
  | none => True

theorem Mode.mode_operandOf (b1 b2 : Byte) (m : Mode) : (m.operandOf b1 b2).mode = m := by
  cases m <;> rfl

theorem isOperandOf_map_operandOf (b1 b2 : Byte) (mode : Option Mode) :
    IsOperandOf b1 b2 (mode.map (Mode.operandOf b1 b2)) := by
  cases mode with
  | none => trivial
  | some m => exact (congrArg (Mode.operandOf b1 b2) (m.mode_operandOf b1 b2)).symm

theorem Mode.bytes_operandOf (b1 b2 : Byte) (m : Mode) :
    (m.operandOf b1 b2).bytes = [b1, b2].take m.operandBytes := by
  cases m with
  | abs | absx | absy | ind | absindx =>
    exact congrArg₂ (fun lo hi => [lo, hi]) (Machine.loByte_wordOf b2 b1) (Machine.hiByte_wordOf b2 b1)
  | _ => rfl

/-- An operand is that of its mode and its own bytes, whatever follows them. -/
theorem Operand.eq_operandOf (o : Operand) (tail : List Byte) :
    o = o.mode.operandOf ((o.bytes ++ tail).getD 0 0#8) ((o.bytes ++ tail).getD 1 0#8) := by
  cases o with
  | mem m =>
    cases m with
    | abs w | absx w | absy w | ind w | absindx w =>
      conv_lhs => rw [← Machine.wordOf_hi_lo w]
      rfl
    | _ => rfl
  | _ => rfl

/-! ### The decoder by opcode and operand -/

/-- An instruction is decoded from its opcode and two bytes that make its operand. -/
theorem decode_of_isOperandOf {i : Instr} {b1 b2 : Byte} (h : IsOperandOf b1 b2 i.operand) :
    decode i.opcode b1 b2 = i := by
  cases i <;> cases h <;> simp only [Instr.opcode] <;> rfl

/-- What a form makes of the operand bytes: the operand of its mode, and an opcode that does not depend on them. -/
def IsFormOf (b1 b2 : Byte) (p : Mode × Form) : Prop :=
  (p.2 b1 b2).operand = some (p.1.operandOf b1 b2) ∧ (p.2 b1 b2).opcode = (p.2 0#8 0#8).opcode

theorem forall_formsOf_isFormOf (b1 b2 : Byte) (mn : Mnemonic) : (formsOf mn).Forall (IsFormOf b1 b2) := by
  cases mn with
  | rmb n | smb n | bbr n | bbs n => fin_cases n <;> exact ⟨rfl, rfl⟩
  | undefined => trivial
  | _ => and_intros <;> rfl

theorem mem_of_formIn {forms : List (Mode × Form)} {m : Mode} {f : Form} (h : formIn forms m = some f) :
    (m, f) ∈ forms := by
  induction forms with
  | nil => cases h
  | cons p rest ih =>
    unfold formIn at h
    split at h
    next hm =>
      cases h
      exact hm ▸ List.mem_cons_self
    next => exact List.mem_cons_of_mem _ (ih h)

theorem isFormOf_of_formOf {mn : Mnemonic} {mode : Option Mode} {f : Form} (h : formOf mn mode = some f) (b1 b2 : Byte) :
    ∃ m, mode = some m ∧ IsFormOf b1 b2 (m, f) := by
  cases mode with
  | none => cases h
  | some m =>
    exact ⟨m, rfl, List.forall_iff_forall_mem.mp (forall_formsOf_isFormOf b1 b2 mn) _ (mem_of_formIn h)⟩

/-- The opcodes without a form have no mode, and their rows no operand. -/
theorem undefinedInstr_row : ∀ op : Byte, (formOf (descriptor op).mnemonic (descriptor op).mode).isNone = true →
    (descriptor op).mode = none ∧ (undefinedInstr op).operand = none := by decide

theorem opcode_decode_zero : ∀ op : Byte, (decode op 0#8 0#8).opcode = op := by decide

/-- The decoder gives an opcode the operand of its mode (rule R61). -/
theorem operand_decode (op b1 b2 : Byte) :
    (decode op b1 b2).operand = (descriptor op).mode.map (Mode.operandOf b1 b2) := by
  cases h : formOf (descriptor op).mnemonic (descriptor op).mode with
  | none =>
    obtain ⟨hmode, hoperand⟩ := undefinedInstr_row op (by rw [h, Option.isNone_none])
    rw [decode_of_no_form h, hoperand, hmode, Option.map_none]
  | some f =>
    obtain ⟨m, hm, hoperand, -⟩ := isFormOf_of_formOf h b1 b2
    rw [decode_of_form h, hoperand, hm, Option.map_some]

/-- The decoder gives an opcode an instruction of that opcode (rule R62). -/
theorem opcode_decode (op b1 b2 : Byte) : (decode op b1 b2).opcode = op := by
  have hzero := opcode_decode_zero op
  cases h : formOf (descriptor op).mnemonic (descriptor op).mode with
  | none => rwa [decode_of_no_form h] at hzero ⊢
  | some f =>
    obtain ⟨_, -, -, hopcode⟩ := isFormOf_of_formOf h b1 b2
    rw [decode_of_form h] at hzero ⊢
    exact hopcode.trans hzero

theorem operandBytes_decode (op b1 b2 : Byte) :
    (decode op b1 b2).operandBytes = [b1, b2].take (operandByteCount op) := by
  rw [Instr.operandBytes, operand_decode, operandByteCount]
  cases (descriptor op).mode with
  | none => rfl
  | some m => exact m.bytes_operandOf b1 b2

theorem Mode.operandOf_congr {m : Mode} {b1 b2 c1 c2 : Byte}
    (h : [b1, b2].take m.operandBytes = [c1, c2].take m.operandBytes) : m.operandOf b1 b2 = m.operandOf c1 c2 := by
  cases m <;> cases h <;> rfl

/-- Only the bytes that the mode of the opcode has are decoded (rule R97). -/
theorem decode_congr {op b1 b2 c1 c2 : Byte}
    (h : [b1, b2].take (operandByteCount op) = [c1, c2].take (operandByteCount op)) :
    decode op b1 b2 = decode op c1 c2 := by
  have hoperand : (decode op c1 c2).operand = (descriptor op).mode.map (Mode.operandOf b1 b2) := by
    rw [operand_decode]
    unfold operandByteCount at h
    cases hmode : (descriptor op).mode with
    | none => rfl
    | some m =>
      rw [hmode] at h
      exact congrArg some (Mode.operandOf_congr h).symm
  have hdecode : IsOperandOf b1 b2 (decode op c1 c2).operand := hoperand ▸ isOperandOf_map_operandOf b1 b2 _
  simpa only [opcode_decode] using decode_of_isOperandOf hdecode

/-! ### Strings of bytes -/

/-- The bytes an opcode's mode has are counted by its length (rules R60, R61); `BRK` has one more. -/
theorem operandByteCount_lt_length : ∀ op : Byte, operandByteCount op < (descriptor op).length := by decide

theorem decodeBytes_of_length_le {op : Byte} {tail : List Byte} (h : (descriptor op).length ≤ tail.length + 1) :
    decodeBytes (op :: tail) =
      .ok (decode op (tail.getD 0 0#8) (tail.getD 1 0#8), (op :: tail).drop (descriptor op).length) := by
  have hlength := operandByteCount_lt_length op
  obtain ⟨n, hn⟩ := Nat.exists_eq_add_of_lt (Nat.zero_lt_of_lt hlength)
  rw [decodeBytes, if_neg (Nat.not_lt.mpr h), hn]
  simp

theorem isOperandOf_operandBytes (i : Instr) (tail : List Byte) :
    IsOperandOf ((i.operandBytes ++ tail).getD 0 0#8) ((i.operandBytes ++ tail).getD 1 0#8) i.operand := by
  unfold Instr.operandBytes
  cases i.operand with
  | none => trivial
  | some o => exact o.eq_operandOf tail

/-- Every instruction is decoded from its own bytes, whatever follows them. -/
theorem decode_operandBytes (i : Instr) (tail : List Byte) :
    decode i.opcode ((i.operandBytes ++ tail).getD 0 0#8) ((i.operandBytes ++ tail).getD 1 0#8) = i :=
  decode_of_isOperandOf (isOperandOf_operandBytes i tail)

theorem length_operandBytes_lt (i : Instr) : i.operandBytes.length < i.length := by
  rw [← decode_operandBytes i [], operandBytes_decode, Instr.length, Instr.descriptor, opcode_decode]
  exact (List.length_take_le _ _).trans_lt (operandByteCount_lt_length _)

theorem length_encode (i : Instr) : (encode i).length = i.length := by
  simp only [encode, List.length_append, List.length_cons, List.length_replicate]
  exact Nat.add_sub_of_le (length_operandBytes_lt i)

/-- Settles O2: an instruction is decoded from its own bytes, and its encoding is as long as its opcode declares. -/
theorem decodeInvertsEncode : Obligations.DecodeInvertsEncode := by
  unfold Obligations.DecodeInvertsEncode
  intro i rest
  have hbytes : encode i ++ rest =
      i.opcode :: (i.operandBytes ++ (List.replicate (i.length - (i.operandBytes.length + 1)) 0#8 ++ rest)) := by
    simp only [encode, List.cons_append, List.append_assoc, List.length_cons]
  have hlong : i.length ≤ (encode i ++ rest).length := by
    rw [List.length_append, length_encode]
    exact Nat.le_add_right _ _
  have hdrop : (encode i ++ rest).drop i.length = rest := List.drop_left' (length_encode i)
  rw [hbytes] at hlong hdrop ⊢
  rw [decodeBytes_of_length_le hlong, decode_operandBytes]
  exact congrArg (fun r => Except.ok (i, r)) hdrop

theorem operandByteCount_le_two : ∀ op : Byte, operandByteCount op ≤ 2 := by decide

theorem take_pair_getD {tail : List Byte} {n : Nat} (hn : n ≤ 2) (hlength : n ≤ tail.length) :
    [tail.getD 0 0#8, tail.getD 1 0#8].take n = tail.take n := by
  match n, tail with
  | 0, _ => rfl
  | 1, _ :: _ => rfl
  | 2, _ :: _ :: _ => rfl

/-- Settles O3: a string of `LEN` bytes holds the operand bytes of its opcode's mode, as `LEN` exceeds their number. -/
theorem decodedInstructionHasItsBytes : Obligations.DecodedInstructionHasItsBytes := by
  unfold Obligations.DecodedInstructionHasItsBytes
  intro op tail
  refine ⟨fun hlong => ⟨_, decodeBytes_of_length_le hlong, opcode_decode op _ _, ?_⟩, fun hshort => if_pos hshort⟩
  have hcount : operandByteCount op ≤ tail.length :=
    Nat.le_of_lt_succ ((operandByteCount_lt_length op).trans_le hlong)
  rw [operandBytes_decode, take_pair_getD (operandByteCount_le_two op) hcount]

end Sys2Proof
end

section
/-! PROOFS, family other. O9, O7, O8 and O10: the step as the meaning of the instruction at the program counter (rules R47,
R60, R120), and the one fault that stops a run (rules R68, R129, R260). -/

namespace Sys2Proof.Machine

/-! ### The fetch -/

/-- The instruction the bytes at the program counter stand for. -/
def instrAt (s : State) : Instr := decode (s.peek s.pc) (s.peek (s.pc + 1#16)) (s.peek (s.pc + 2#16))

theorem opcode_instrAt (s : State) : (instrAt s).opcode = s.peek s.pc := opcode_decode _ _ _

theorem operand_instrAt (s : State) : (instrAt s).operand =
    (descriptor (s.peek s.pc)).mode.map (Mode.operandOf (s.peek (s.pc + 1#16)) (s.peek (s.pc + 2#16))) :=
  operand_decode _ _ _

/-- The fetch decodes the bytes at the program counter, and reads those of them that the mode has (rules R47, R97). -/
theorem fetch_eq (s : State) : fetch s = (instrAt s, { s with bus := s.bus ++ fetchReads s }) := by
  have hcount := operandByteCount_le_two (s.peek s.pc)
  obtain h | h | h : operandByteCount (s.peek s.pc) = 0 ∨ operandByteCount (s.peek s.pc) = 1 ∨
      operandByteCount (s.peek s.pc) = 2 := by omega
  · have hdecode : decode (s.peek s.pc) 0#8 0#8 = instrAt s := decode_congr (by rw [h]; rfl)
    simp only [fetch, fetchReads, memRead_fst, h, hdecode]
    rfl
  · have hdecode : decode (s.peek s.pc) (s.peek (s.pc + 1#16)) 0#8 = instrAt s := decode_congr (by rw [h]; rfl)
    simp only [fetch, fetchReads, memRead_fst, memRead_snd, State.peek_setBus, h, hdecode]
    simp [State.setBus, State.peek]
  · simp only [fetch, fetchReads, memRead_fst, memRead_snd, State.peek_setBus, h, instrAt]
    simp [State.setBus, State.peek]

/-- A step is the meaning of that instruction, after the reads of its fetch. -/
theorem step_eq (s : State) : step s = exec (instrAt s) { s with bus := fetchReads s } := by
  rw [step, fetch_eq]
  rfl

theorem length_le_three : ∀ op : Byte, (descriptor op).length ≤ 3 := by decide

/-- Settles O9: the instruction at the program counter is the one its three bytes decode to. -/
theorem stepRunsDecodedInstruction : Obligations.StepRunsDecodedInstruction := by
  unfold Obligations.StepRunsDecodedInstruction
  intro s i rest hdecode
  rw [decodeBytes_of_length_le (length_le_three _)] at hdecode
  cases hdecode
  exact step_eq s

/-! ### Undefined opcodes -/

theorem mnemonic_instrAt (s : State) : (instrAt s).mnemonic = (descriptor (s.peek s.pc)).mnemonic := by
  rw [Instr.mnemonic, Instr.descriptor, opcode_instrAt]

theorem operandByteCount_of_undefined : ∀ op : Byte, (descriptor op).mnemonic = .undefined →
    operandByteCount op = 0 := by decide

theorem fetchReads_of_undefined {s : State} (h : (descriptor (s.peek s.pc)).mnemonic = .undefined) :
    fetchReads s = [.read s.pc (s.peek s.pc)] := by
  rw [fetchReads, operandByteCount_of_undefined _ h]
  rfl

theorem exec_of_undefined {i : Instr} (h : i.mnemonic = .undefined) (s : State) :
    exec i s = .fault (.undefinedOpcode s.pc i.opcode) := by
  rw [exec_eq_behaviour, h]
  rfl

/-- The fault of a step, at an undefined opcode (rule R260). -/
theorem step_of_undefined {s : State} (h : (descriptor (s.peek s.pc)).mnemonic = .undefined) :
    step s = .fault (.undefinedOpcode s.pc (s.peek s.pc)) := by
  rw [step_eq, exec_of_undefined ((mnemonic_instrAt s).trans h), opcode_instrAt]

/-- Everywhere else a step completes. -/
theorem step_of_ne_undefined {s : State} (h : (descriptor (s.peek s.pc)).mnemonic ≠ .undefined) :
    ∃ t, step s = .next t := by
  rw [← mnemonic_instrAt] at h
  obtain ⟨b, hb⟩ := exists_behaviour_of_ne_undefined h
  exact ⟨_, (step_eq s).trans (exec_of_behaviourOf hb _)⟩

/-- Settles O7: the table has the rows listed, and the fault of a step is that of the instruction its opcode decodes to. -/
theorem undefinedOpcodes : Obligations.UndefinedOpcodes := by
  unfold Obligations.UndefinedOpcodes
  refine ⟨by decide, by decide, by decide, rfl, rfl, by decide, rfl, rfl, by decide,
    fun i s h => exec_of_undefined h s, fun s h => ⟨?fetched, step_of_undefined h⟩, fun _ _ => rfl⟩
  case fetched =>
    rw [fetch_eq]
    exact fetchReads_of_undefined h

/-- Settles O8: the driver keeps the state of a step that faults, so the second step is the first. -/
theorem undefinedOpcodeFaultKeepsTheInstance : Obligations.UndefinedOpcodeFaultKeepsTheInstance := by
  unfold Obligations.UndefinedOpcodeFaultKeepsTheInstance
  intro ratio s h m
  have hfault : m.handle .step = .fault (.undefinedOpcode s.pc (s.peek s.pc)) := by
    simp only [m, Instance.handle, Phase.handle, step_of_undefined h]
  have hsame : m.after .step = m := by rw [Instance.after, hfault]
  refine ⟨hfault, hsame, hsame.symm ▸ hfault, fun e he => ?_⟩
  rw [hsame]
  cases e with
  | step => exact absurd rfl he
  | reset | interrupt | interruptAt | busTarget => exact ⟨_, rfl⟩

/-! ### Runs -/

theorem run_succ_of_next (M : Host.Core) {s t : M.State} (h : M.step s = .next t) (k : Nat) :
    M.run (k + 1) s = M.run k t := by
  rw [Host.Core.run, h]

theorem run_succ_of_fault (M : Host.Core) {s : M.State} {r : M.Fault} (h : M.step s = .fault r) (k : Nat) :
    M.run (k + 1) s = .fault r := by
  rw [Host.Core.run, h]

/-- Settles O10: by induction on the number of steps; the first step completes, or stops the run where it stands. -/
theorem runsStopOnlyAtUndefinedOpcodes : Obligations.RunsStopOnlyAtUndefinedOpcodes := by
  unfold Obligations.RunsStopOnlyAtUndefinedOpcodes
  intro k
  induction k with
  | zero => exact fun s => .inl ⟨s, rfl⟩
  | succ k ih =>
    intro s
    by_cases h : (descriptor (s.peek s.pc)).mnemonic = .undefined
    · exact .inr ⟨0, s, Nat.succ_pos k, rfl, h, run_succ_of_fault core (step_of_undefined h) k⟩
    · obtain ⟨s', hs'⟩ := step_of_ne_undefined h
      have hrun : ∀ j, core.run (j + 1) s = core.run j s' := run_succ_of_next core hs'
      obtain ⟨t, ht⟩ | ⟨j, t, hj, ht, hundef, hfault⟩ := ih s'
      · exact .inl ⟨t, (hrun k).trans ht⟩
      · exact .inr ⟨j + 1, t, Nat.succ_lt_succ hj, (hrun j).trans ht, hundef, (hrun k).trans hfault⟩

end Sys2Proof.Machine
end

section
/-! PROOFS, family other. O60: what a step does on the bus and to memory (rules R46, R47, R50, R53). -/

namespace Sys2Proof.Machine

/-! ### Reads that answer what memory holds -/

/-- Each of the transactions is a read that answers the byte `s` holds. -/
def AnsweredBy (s : State) (reads : List BusAccess) : Prop := ∀ b ∈ reads, ∃ a, b = .read a (s.peek a)

theorem answeredBy_nil (s : State) : AnsweredBy s [] := nofun

theorem answeredBy_cons (s : State) (a : Address) {reads : List BusAccess} (h : AnsweredBy s reads) :
    AnsweredBy s (.read a (s.peek a) :: reads) :=
  List.forall_mem_cons.mpr ⟨⟨a, rfl⟩, h⟩

theorem answeredBy_append {s : State} {l l' : List BusAccess} (h : AnsweredBy s l) (h' : AnsweredBy s l') :
    AnsweredBy s (l ++ l') :=
  List.forall_mem_append.mpr ⟨h, h'⟩

theorem answeredBy_map (s : State) (addrs : List Address) :
    AnsweredBy s (addrs.map fun a => .read a (s.peek a)) :=
  List.forall_mem_map.mpr fun a _ => ⟨a, rfl⟩

theorem answeredBy_one (s : State) (a : Address) : AnsweredBy s [.read a (s.peek a)] :=
  answeredBy_cons s a (answeredBy_nil s)

theorem answeredBy_wordReads (a : Address) (s : State) : AnsweredBy s (wordReads a s) :=
  answeredBy_cons s a (answeredBy_one s (a + 1#16))

theorem answeredBy_pointerReads (m : MemOperand) (s : State) : AnsweredBy s (pointerReads m s) := by
  cases m with
  | ind addr => exact answeredBy_wordReads addr s
  | absindx addr => exact answeredBy_wordReads _ s
  | zpind zz | zpindx zz | zpindy zz => exact answeredBy_cons s _ (answeredBy_one s _)
  | _ => exact answeredBy_nil s

theorem answeredBy_operandReads (m : MemOperand) (s : State) : AnsweredBy s (operandReads m s) := by
  cases m with
  | imm nn => exact answeredBy_nil s
  | _ => exact answeredBy_append (answeredBy_pointerReads _ s) (answeredBy_one s _)

theorem answeredBy_pullReads (k : Nat) (s : State) : AnsweredBy s (pullReads k s) :=
  List.forall_mem_map.mpr fun _ _ => ⟨_, rfl⟩

/-! ### What each behaviour does beside the registers and flags -/

/-- From `s` to `t` the bus has seen `reads`, each answering what memory held, and then `writes`, which make memory;
`CYC` is left to step 5 of rule R120. -/
structure Accounts (s t : State) (reads writes : List BusAccess) : Prop where
  bus : t.bus = s.bus ++ (reads ++ writes)
  mem : t.mem = s.mem.applyWrites writes
  cyc : t.cyc = s.cyc
  answered : AnsweredBy s reads
  written : ∀ b ∈ writes, b.isRead = false

/-- A behaviour that only reads. -/
theorem accounts_of_reads {s t : State} {reads : List BusAccess} (hbus : t.bus = s.bus ++ reads) (hmem : t.mem = s.mem)
    (hcyc : t.cyc = s.cyc) (hanswered : AnsweredBy s reads) : Accounts s t reads [] :=
  ⟨hbus.trans (by rw [List.append_nil]), hmem, hcyc, hanswered, nofun⟩

/-- A behaviour that reads its operand and then writes registers and flags only. -/
theorem accounts_of_readOperand {m : MemOperand} {s t : State} (hbus : t.bus = (readOperand m s).2.bus)
    (hmem : t.mem = (readOperand m s).2.mem) (hcyc : t.cyc = (readOperand m s).2.cyc) :
    Accounts s t (operandReads m s) [] := by
  rw [readOperand_eq] at hbus hmem hcyc
  exact accounts_of_reads hbus hmem hcyc (answeredBy_operandReads m s)

theorem accounts_storeByte (v : Byte) (m : MemOperand) (s : State) :
    Accounts s (storeByte v m s).state (pointerReads m s) [.write (operandAddress m s) v] := by
  rw [storeByte_eq]
  exact ⟨List.append_assoc .., rfl, rfl, answeredBy_pointerReads m s, List.forall_mem_singleton.mpr rfl⟩

theorem accounts_modifiedByte (value : Byte → Byte) (flags : Byte → Flags) (m : MemOperand) (s : State) :
    Accounts s (modifiedByte value flags m s)
      (pointerReads m s ++ [.read (operandAddress m s) (s.peek (operandAddress m s))])
      [.write (operandAddress m s) (value (s.peek (operandAddress m s)))] :=
  ⟨by simp [modifiedByte], rfl, rfl, answeredBy_append (answeredBy_pointerReads m s) (answeredBy_one s _),
    List.forall_mem_singleton.mpr rfl⟩

theorem accounts_push (v : Byte) (s : State) : Accounts s (push v s) [] [.write (stackAddress s.sp) v] :=
  ⟨rfl, rfl, rfl, nofun, List.forall_mem_singleton.mpr rfl⟩

/-- The pulls leave everything but the stack pointer and the record of the bus. -/
theorem accounts_pull (s : State) : Accounts s (pull s).2 (pullReads 1 s) [] := by
  rw [pull_snd]
  exact accounts_of_reads rfl rfl rfl (answeredBy_pullReads 1 s)

/-- `JSR` makes its pointer reads and pushes the address of its last byte (rule R201). -/
theorem callSubroutine_eq (m : MemOperand) (s : State) : callSubroutine m s = .jump { s with
    sp := s.sp - 1#8 - 1#8
    depth := s.depth + 1
    mem := (s.mem.write (stackAddress s.sp) (hiByte (s.pc + 2#16))).write (stackAddress (s.sp - 1#8))
      (loByte (s.pc + 2#16))
    bus := s.bus ++ pointerReads m s ++ [.write (stackAddress s.sp) (hiByte (s.pc + 2#16)),
      .write (stackAddress (s.sp - 1#8)) (loByte (s.pc + 2#16))] } (operandAddress m s) := by
  rw [callSubroutine, effectiveAddress_eq]
  simp only [push16_eq]
  rfl

theorem accounts_callSubroutine (m : MemOperand) (s : State) :
    ∃ writes, Accounts s (callSubroutine m s).state (pointerReads m s) writes ∧ writes.length = 2 := by
  rw [callSubroutine_eq]
  exact ⟨_, ⟨List.append_assoc .., rfl, rfl, answeredBy_pointerReads m s, by simp [BusAccess.isRead]⟩, rfl⟩

theorem accounts_softwareInterrupt (s : State) :
    ∃ writes, Accounts s (softwareInterrupt s).state (wordReads config.vecIrq s) writes ∧ writes.length = 3 := by
  rw [softwareInterrupt, read16_eq]
  simp only [interruptEntry_eq]
  exact ⟨_, ⟨List.append_assoc .., rfl, rfl, answeredBy_wordReads _ s, by simp [BusAccess.isRead]⟩, rfl⟩

theorem accounts_returnFromSubroutine (s : State) :
    Accounts s (returnFromSubroutine s).state (pullReads 2 s) [] := by
  simp only [returnFromSubroutine, pull16_snd]
  exact accounts_of_reads rfl rfl rfl (answeredBy_pullReads 2 s)

theorem accounts_interruptReturn (s : State) : Accounts s (interruptReturn s).state (pullReads 3 s) [] := by
  simp only [interruptReturn, returnFromInterrupt_snd]
  exact accounts_of_reads rfl rfl rfl (answeredBy_pullReads 3 s)

/-! ### Every behaviour, with bounds on its transactions -/

/-- `Accounts` for some transactions: at most three writes, and with the opcode and its `n` operand bytes at most five
reads. -/
def AccountsWithin (n : Nat) (s t : State) : Prop :=
  ∃ reads writes, Accounts s t reads writes ∧ n + reads.length ≤ 4 ∧ writes.length ≤ 3

/-- A mode with a pointer in memory has two operand bytes only if the address itself is in memory; `JMP` alone has such
modes. -/
theorem operandBytes_add_pointerReads_le (m : MemOperand) (s : State) :
    m.mode.operandBytes + (pointerReads m s).length ≤ 3 ∨
      ((m.mode = .ind ∨ m.mode = .absindx) ∧ m.mode.operandBytes + (pointerReads m s).length = 4) := by
  cases m with
  | ind addr => exact .inr ⟨.inl rfl, rfl⟩
  | absindx addr => exact .inr ⟨.inr rfl, rfl⟩
  | zpind | zpindx | zpindy => exact .inl (Nat.le_refl 3)
  | _ => exact .inl (Nat.le_of_ble_eq_true rfl)

theorem length_operandReads_le (m : MemOperand) (s : State) :
    (operandReads m s).length ≤ (pointerReads m s).length + 1 := by
  cases m with
  | imm nn => exact Nat.zero_le _
  | _ => exact List.length_append.le

section

variable {s t : State} {m : MemOperand}

theorem Mode.operandBytes_le_two (mode : Mode) : mode.operandBytes ≤ 2 := by
  cases mode <;> decide

theorem accountsWithin_of_nothing {mode : Mode} (hbus : t.bus = s.bus) (hmem : t.mem = s.mem) (hcyc : t.cyc = s.cyc) :
    AccountsWithin mode.operandBytes s t :=
  ⟨[], [], accounts_of_reads (hbus.trans (by rw [List.append_nil])) hmem hcyc (answeredBy_nil s),
    (Mode.operandBytes_le_two mode).trans (by decide), Nat.zero_le 3⟩

theorem accountsWithin_of_readOperand (hm : m.mode.operandBytes + (pointerReads m s).length ≤ 3)
    (hbus : t.bus = (readOperand m s).2.bus) (hmem : t.mem = (readOperand m s).2.mem)
    (hcyc : t.cyc = (readOperand m s).2.cyc) : AccountsWithin m.mode.operandBytes s t :=
  ⟨_, [], accounts_of_readOperand hbus hmem hcyc,
    (Nat.add_le_add_left (length_operandReads_le m s) _).trans (Nat.succ_le_succ hm), Nat.zero_le 3⟩

theorem accountsWithin_storeByte (v : Byte) (hm : m.mode.operandBytes + (pointerReads m s).length ≤ 3) :
    AccountsWithin m.mode.operandBytes s (storeByte v m s).state :=
  ⟨_, _, accounts_storeByte v m s, Nat.le_succ_of_le hm, Nat.le_add_left 1 2⟩

theorem accountsWithin_modifiedByte (value : Byte → Byte) (flags : Byte → Flags)
    (hm : m.mode.operandBytes + (pointerReads m s).length ≤ 3) :
    AccountsWithin m.mode.operandBytes s (modifiedByte value flags m s) := by
  refine ⟨_, _, accounts_modifiedByte value flags m s, ?_, Nat.le_add_left 1 2⟩
  rw [List.length_append, ← Nat.add_assoc]
  exact Nat.succ_le_succ hm

theorem accountsWithin_testAndWrite (op : Byte → Byte → Byte)
    (hm : m.mode.operandBytes + (pointerReads m s).length ≤ 3) :
    AccountsWithin m.mode.operandBytes s (testAndWrite op m s).state := by
  simp only [testAndWrite_eq, Executed.plain]
  exact accountsWithin_modifiedByte _ _ hm

theorem accountsWithin_modifyByte (f : Byte → Byte) (hm : m.mode.operandBytes + (pointerReads m s).length ≤ 3) :
    AccountsWithin m.mode.operandBytes s (modifyByte f m s).state := by
  simp only [modifyByte_eq, Executed.plain]
  exact accountsWithin_modifiedByte _ _ hm

theorem accountsWithin_stepMem (f : Byte → Byte) (hm : m.mode.operandBytes + (pointerReads m s).length ≤ 3) :
    AccountsWithin m.mode.operandBytes s (stepMem f m s).state := by
  simp only [stepMem_eq, Executed.withResult]
  exact accountsWithin_modifiedByte _ _ hm

theorem accountsWithin_shiftMem (f : Byte → Bool → ShiftResult)
    (hm : m.mode.operandBytes + (pointerReads m s).length ≤ 3) :
    AccountsWithin m.mode.operandBytes s (shiftMem f m s).state := by
  simp only [shiftMem_eq, Executed.withResult]
  exact accountsWithin_modifiedByte _ _ hm

theorem accountsWithin_push (v : Byte) : AccountsWithin 0 s (push v s) :=
  ⟨_, _, accounts_push v s, Nat.zero_le 4, Nat.le_add_left 1 2⟩

theorem accountsWithin_pull (hbus : t.bus = (pull s).2.bus) (hmem : t.mem = (pull s).2.mem)
    (hcyc : t.cyc = (pull s).2.cyc) : AccountsWithin 0 s t := by
  rw [pull_snd] at hbus hmem hcyc
  exact ⟨_, _, accounts_of_reads hbus hmem hcyc (answeredBy_pullReads 1 s), Nat.le_add_left 1 3, Nat.zero_le 3⟩

theorem accountsWithin_jumpTo (m : MemOperand) (s : State) :
    AccountsWithin m.mode.operandBytes s (jumpTo m s).state := by
  rw [jumpTo_state]
  refine ⟨_, [], accounts_of_reads rfl rfl rfl (answeredBy_pointerReads m s), ?_, Nat.zero_le 3⟩
  obtain h | ⟨-, h⟩ := operandBytes_add_pointerReads_le m s
  exacts [Nat.le_succ_of_le h, h.le]

theorem branchIf_state (cond : Bool) (off : Byte) (s : State) : (branchIf cond off s).state = s := by
  cases cond <;> rfl

theorem accountsWithin_branchIf (cond : Bool) (off : Byte) : AccountsWithin 1 s (branchIf cond off s).state := by
  rw [branchIf_state]
  exact accountsWithin_of_nothing (mode := .rel) rfl rfl rfl

theorem accountsWithin_branchOnBit (n : Fin 8) (b : Bool) (zz off : Byte) :
    AccountsWithin 2 s (branchOnBit n b zz off s).state := by
  rw [branchOnBit_state]
  exact ⟨_, [], accounts_of_reads rfl rfl rfl (answeredBy_one s _), Nat.le_succ 3, Nat.zero_le 3⟩

end

/-- Every behaviour, on an operand in memory whose address is in memory only for `JMP`. -/
theorem accountsWithin_of_behaviourOf {mn : Mnemonic} {o : Option Operand} {b : State → Executed}
    (h : behaviourOf mn o = some b) (s : State)
    (hjmp : ∀ m, o = some (.mem m) → m.mode = .ind ∨ m.mode = .absindx → mn = .jmp) :
    ∃ o', o = some o' ∧ AccountsWithin o'.mode.operandBytes s (b s).state := by
  have hpointer : mn ≠ .jmp → ∀ m, o = some (.mem m) → m.mode.operandBytes + (pointerReads m s).length ≤ 3 :=
    fun hne m hm => (operandBytes_add_pointerReads_le m s).resolve_right fun h => hne (hjmp m hm h.1)
  cases mn with
  | lda | ldx | ldy | adc | sbc | and | ora | eor | cmp | cpx | cpy =>
    obtain ⟨m, rfl, rfl⟩ := onMem_eq_some h
    exact ⟨_, rfl, accountsWithin_of_readOperand (hpointer nofun m rfl) rfl rfl rfl⟩
  | bit =>
    obtain ⟨m, rfl, rfl⟩ := onMem_eq_some h
    refine ⟨_, rfl, accountsWithin_of_readOperand (hpointer nofun m rfl) ?_ ?_ ?_⟩ <;> cases m <;> rfl
  | sta | stx | sty | stz =>
    obtain ⟨m, rfl, rfl⟩ := onMem_eq_some h
    exact ⟨_, rfl, accountsWithin_storeByte _ (hpointer nofun m rfl)⟩
  | tsb | trb =>
    obtain ⟨m, rfl, rfl⟩ := onMem_eq_some h
    exact ⟨_, rfl, accountsWithin_testAndWrite _ (hpointer nofun m rfl)⟩
  | rmb n | smb n =>
    obtain ⟨m, rfl, rfl⟩ := onMem_eq_some h
    exact ⟨_, rfl, accountsWithin_modifyByte _ (hpointer nofun m rfl)⟩
  | inc | dec =>
    obtain ⟨rfl, rfl⟩ | ⟨m, rfl, rfl⟩ := onAccOrMem_eq_some h
    · exact ⟨_, rfl, accountsWithin_of_nothing rfl rfl rfl⟩
    · exact ⟨_, rfl, accountsWithin_stepMem _ (hpointer nofun m rfl)⟩
  | asl | lsr | rol | ror =>
    obtain ⟨rfl, rfl⟩ | ⟨m, rfl, rfl⟩ := onAccOrMem_eq_some h
    · exact ⟨_, rfl, accountsWithin_of_nothing rfl rfl rfl⟩
    · exact ⟨_, rfl, accountsWithin_shiftMem _ (hpointer nofun m rfl)⟩
  | tax | tay | txa | tya | tsx | txs | inx | iny | dex | dey | clc | sec | cli | sei | cld | sed | clv | nop =>
    obtain ⟨rfl, rfl⟩ := onImplied_eq_some h
    exact ⟨_, rfl, accountsWithin_of_nothing rfl rfl rfl⟩
  | pha | phx | phy | php =>
    obtain ⟨rfl, rfl⟩ := onImplied_eq_some h
    exact ⟨_, rfl, accountsWithin_push _⟩
  | pla | plx | ply | plp =>
    obtain ⟨rfl, rfl⟩ := onImplied_eq_some h
    exact ⟨_, rfl, accountsWithin_pull rfl rfl rfl⟩
  | jmp =>
    obtain ⟨m, rfl, rfl⟩ := onMem_eq_some h
    exact ⟨_, rfl, accountsWithin_jumpTo m s⟩
  | jsr =>
    obtain ⟨m, rfl, rfl⟩ := onMem_eq_some h
    obtain ⟨writes, haccounts, hwrites⟩ := accounts_callSubroutine m s
    exact ⟨_, rfl, _, writes, haccounts, Nat.le_succ_of_le (hpointer nofun m rfl), hwrites.trans_le (by decide)⟩
  | rts =>
    obtain ⟨rfl, rfl⟩ := onImplied_eq_some h
    exact ⟨_, rfl, _, _, accounts_returnFromSubroutine s, Nat.le_add_left 2 2, Nat.zero_le 3⟩
  | rti =>
    obtain ⟨rfl, rfl⟩ := onImplied_eq_some h
    exact ⟨_, rfl, _, _, accounts_interruptReturn s, Nat.le_succ 3, Nat.zero_le 3⟩
  | brk =>
    obtain ⟨rfl, rfl⟩ := onImplied_eq_some h
    obtain ⟨writes, haccounts, hwrites⟩ := accounts_softwareInterrupt s
    exact ⟨_, rfl, _, writes, haccounts, Nat.le_add_left 2 2, hwrites.le⟩
  | bpl | bmi | bvc | bvs | bcc | bcs | bne | beq | bra =>
    obtain ⟨off, rfl, rfl⟩ := onRelative_eq_some h
    exact ⟨_, rfl, accountsWithin_branchIf _ off⟩
  | bbr n | bbs n =>
    obtain ⟨zz, off, rfl, rfl⟩ := onBit_eq_some h
    exact ⟨_, rfl, accountsWithin_branchOnBit n _ zz off⟩
  | undefined => cases h

/-! ### A completed instruction -/

/-- Steps 4 and 5 of rule R120 write the program counter, the flags and `CYC`, and leave the rest as the behaviour made
it. -/
theorem eq_of_runOpcode {op : Byte} {b : State → Executed} {s t : State} (h : runOpcode op b s = .next t) :
    t = { (b s).state with
      pc := t.pc, flags := t.flags, cyc := (b s).state.cyc + BitVec.ofNat 64 (descriptor op).baseCycles } := by
  rw [runOpcode_eq] at h
  cases h
  cases (b s).result <;> rfl

theorem jmp_of_pointer_mode : ∀ op : Byte, (descriptor op).mode = some .ind ∨ (descriptor op).mode = some .absindx →
    (descriptor op).mnemonic = .jmp := by decide

/-- The behaviour of every instruction does its transactions within the bounds. -/
theorem accountsWithin_of_instr {i : Instr} {b : State → Executed} (h : behaviourOf i.mnemonic i.operand = some b)
    (s : State) : AccountsWithin (operandByteCount i.opcode) s (b s).state := by
  have hjmp : ∀ m, i.operand = some (.mem m) → m.mode = .ind ∨ m.mode = .absindx → i.mnemonic = .jmp := by
    intro m hm hpointer
    have hmode : (descriptor i.opcode).mode = some m.mode := mode_of_operand hm
    exact jmp_of_pointer_mode i.opcode (hpointer.imp (fun h => hmode.trans (congrArg some h))
      fun h => hmode.trans (congrArg some h))
  obtain ⟨o, ho, hwithin⟩ := accountsWithin_of_behaviourOf h s hjmp
  have hcount : operandByteCount i.opcode = o.mode.operandBytes := by
    have hmode : (descriptor i.opcode).mode = some o.mode := mode_of_operand ho
    rw [operandByteCount, hmode]
  rwa [hcount]

/-- A completed instruction does the transactions of its behaviour and adds its base cycles. -/
theorem accountsWithin_of_exec {i : Instr} {s t : State} (h : exec i s = .next t) :
    ∃ reads writes, t.bus = s.bus ++ (reads ++ writes) ∧ t.mem = s.mem.applyWrites writes ∧
      t.cyc = s.cyc + BitVec.ofNat 64 i.baseCycles ∧ AnsweredBy s reads ∧ (∀ b ∈ writes, b.isRead = false) ∧
      operandByteCount i.opcode + reads.length ≤ 4 ∧ writes.length ≤ 3 := by
  obtain ⟨b, hb, hrun⟩ | ⟨-, hfault⟩ := exec_cases i s
  · obtain ⟨reads, writes, haccounts, hreads, hwrites⟩ := accountsWithin_of_instr hb s
    rw [eq_of_runOpcode (hrun.symm.trans h)]
    refine ⟨reads, writes, haccounts.bus, haccounts.mem, ?_, haccounts.answered, haccounts.written, hreads, hwrites⟩
    exact congrArg (· + BitVec.ofNat 64 i.baseCycles) haccounts.cyc
  · cases hfault.symm.trans h

theorem length_fetchReads_le (s : State) : (fetchReads s).length ≤ 1 + operandByteCount (s.peek s.pc) := by
  rw [fetchReads, List.length_map]
  exact List.length_take_le _ _

/-- Settles O60: the reads are those of the fetch and those of the behaviour, the writes those of the behaviour. -/
theorem busAccessesAccountForMemory : Obligations.BusAccessesAccountForMemory := by
  unfold Obligations.BusAccessesAccountForMemory
  intro s t hstep
  rw [step_eq] at hstep
  obtain ⟨reads, writes, hbus, hmem, -, hanswered, hwritten, hreads, hwrites⟩ := accountsWithin_of_exec hstep
  rw [opcode_instrAt] at hreads
  refine ⟨fetchReads s ++ reads, writes, hbus.trans (List.append_assoc ..).symm, List.prefix_append .., ?_, hwritten,
    hmem, ?_, hwrites⟩
  · exact answeredBy_append (answeredBy_map s _) hanswered
  · have hfetch := length_fetchReads_le s
    rw [List.length_append]
    omega

end Sys2Proof.Machine
end

section
/-! PROOFS, family other. O53, O54, O55 and O56: the canonical form of memory (rules R36, R46; log entry 2). -/

namespace Sys2Proof.Machine

theorem wf_applyWrites {m : Memory} (hm : m.wf = true) (l : List BusAccess) : (m.applyWrites l).wf = true := by
  induction l generalizing m with
  | nil => exact hm
  | cons b rest ih =>
    cases b with
    | read a v => exact ih hm
    | write a v => exact ih (m.wf_write a v hm)

/-- Settles O53: the memory after reset is the empty list. -/
theorem resetMemoryCanonical : Obligations.ResetMemoryCanonical := Memory.wf_empty

/-- Settles O54: memory after a step is memory before with the writes of the step, each of which keeps the form. -/
theorem stepKeepsMemoryCanonical : Obligations.StepKeepsMemoryCanonical := by
  unfold Obligations.StepKeepsMemoryCanonical
  intro s t hs hstep
  obtain ⟨_, writes, _, _, _, _, hmem, _, _⟩ := busAccessesAccountForMemory s t hstep
  rw [CanonicalMemory, hmem]
  exact wf_applyWrites hs writes

theorem wf_interruptEntry {target : Address} {brk : Bool} {s : State} (hs : s.mem.wf = true) :
    (interruptEntry target brk s).mem.wf = true := by
  rw [interruptEntry_eq]
  exact Memory.wf_write _ _ _ (Memory.wf_write _ _ _ (Memory.wf_write _ _ _ hs))

theorem wf_interruptThrough {vector : Address} {s : State} (hs : s.mem.wf = true) :
    (interruptThrough vector s).mem.wf = true := by
  rw [interruptThrough, read16_eq]
  exact wf_interruptEntry hs

theorem wf_interrupt {isNmi : Bool} {s : State} (hs : s.mem.wf = true) : (interrupt isNmi s).mem.wf = true := by
  unfold interrupt
  split
  · exact wf_interruptThrough hs
  · split
    · exact hs
    · exact wf_interruptThrough hs

/-- Settles O55: a step by O54, an interrupt by the three writes of its entry; a reset leaves memory, and the bus target
writes one byte. -/
theorem everyEventKeepsMemoryCanonical : Obligations.EveryEventKeepsMemoryCanonical := by
  unfold Obligations.EveryEventKeepsMemoryCanonical
  intro e p q hp hevent
  cases p with
  | constructed cyc mem =>
    cases e with
    | reset => cases hevent; exact hp
    | busTarget a v => cases hevent; exact Memory.wf_write mem a v hp
    | step | interrupt | interruptAt => cases hevent
  | running s =>
    cases e with
    | reset => cases hevent; exact hp
    | busTarget a v => cases hevent; exact Memory.wf_write s.mem a v hp
    | interrupt isNmi => cases hevent; exact wf_interrupt hp
    | interruptAt target brk => cases hevent; exact wf_interruptEntry (s := s.clearBus) hp
    | step =>
      simp only [Phase.handle] at hevent
      cases hstep : step s with
      | next t =>
        rw [hstep] at hevent
        cases hevent
        exact stepKeepsMemoryCanonical s t hp hstep
      | fault | refused =>
        rw [hstep] at hevent
        cases hevent

/-! ### Canonical memories as functions -/

/-- A canonical list lists no cell that reads as an unlisted one (rule R36). -/
theorem lookup_head_ne_unlisted {low a : Nat} {v : Byte} {rest : List Host.Cell}
    (h : Memory.wfFrom low ((a, v) :: rest) = true) : Memory.lookup ((a, v) :: rest) a ≠ unlisted := by
  rw [Memory.lookup, if_pos rfl]
  exact ((Memory.wfFrom_cons low a v rest).mp h).2.2.1

/-- The first address of one list is not below that of the other when both read alike there. -/
theorem head_le_of_lookup_eq {low low' a a' : Nat} {v v' : Byte} {rest rest' : List Host.Cell}
    (h : Memory.wfFrom low ((a, v) :: rest) = true) (h' : Memory.wfFrom low' ((a', v') :: rest') = true)
    (heq : Memory.lookup ((a, v) :: rest) a = Memory.lookup ((a', v') :: rest') a) : a' ≤ a := by
  by_contra hlt
  obtain ⟨-, ha', hv', hrest'⟩ := (Memory.wfFrom_cons low' a' v' rest').mp h'
  have htail : Memory.wfFrom a' ((a', v') :: rest') = true :=
    (Memory.wfFrom_cons a' a' v' rest').mpr ⟨Nat.le_refl a', ha', hv', hrest'⟩
  exact lookup_head_ne_unlisted h (heq.trans (Memory.lookup_below _ a' a htail (Nat.lt_of_not_le hlt)))

theorem eq_of_lookup_eq {m m' : List Host.Cell} {low low' : Nat} (hm : Memory.wfFrom low m = true)
    (hm' : Memory.wfFrom low' m' = true) (heq : ∀ k < 65536, Memory.lookup m k = Memory.lookup m' k) : m = m' := by
  induction m generalizing m' low low' with
  | nil =>
    cases m' with
    | nil => rfl
    | cons c' rest' =>
      obtain ⟨a', v'⟩ := c'
      exact absurd (heq a' ((Memory.wfFrom_cons low' a' v' rest').mp hm').2.1).symm (lookup_head_ne_unlisted hm')
  | cons c rest ih =>
    obtain ⟨a, v⟩ := c
    obtain ⟨-, ha, -, hrest⟩ := (Memory.wfFrom_cons low a v rest).mp hm
    cases m' with
    | nil => exact absurd (heq a ha) (lookup_head_ne_unlisted hm)
    | cons c' rest' =>
      obtain ⟨a', v'⟩ := c'
      obtain ⟨-, ha', -, hrest'⟩ := (Memory.wfFrom_cons low' a' v' rest').mp hm'
      obtain rfl : a = a' := Nat.le_antisymm (head_le_of_lookup_eq hm' hm (heq a' ha').symm)
        (head_le_of_lookup_eq hm hm' (heq a ha))
      obtain rfl : v = v' := by simpa only [Memory.lookup, if_true] using heq a ha
      refine congrArg _ (ih hrest hrest' fun k hk => ?_)
      by_cases hka : k ≤ a
      · rw [Memory.lookup_below rest (a + 1) k hrest (by omega), Memory.lookup_below rest' (a + 1) k hrest' (by omega)]
      · simpa only [Memory.lookup, if_neg (show ¬a = k by omega)] using heq k hk

/-- Settles O56: by induction on both lists at once; their first cells agree, as each is the least address that does not
read as unlisted. -/
theorem canonicalMemoriesAreDeterminedByReads : Obligations.CanonicalMemoriesAreDeterminedByReads := by
  unfold Obligations.CanonicalMemoriesAreDeterminedByReads
  intro m m' hm hm' hread
  refine eq_of_lookup_eq hm hm' fun k hk => ?_
  have hk' := hread (BitVec.ofNat 16 k)
  rwa [Memory.read, Memory.read, BitVec.toNat_ofNat, Nat.mod_eq_of_lt hk] at hk'

end Sys2Proof.Machine
end

section
/-! PROOFS, family other. O11 and O59: every defined instruction completes, and nothing depends on the counters it moves
(rules R34, R35, R124, R294). -/

namespace Sys2Proof.Machine

/-! ### Completion -/

theorem exec_of_wellFormed {i : Instr} (h : i.wellFormed = true) (s : State) : ∃ t, exec i s = .next t := by
  obtain ⟨b, hb⟩ := Option.isSome_iff_exists.mp ((isSome_behaviourOf i).trans h)
  exact ⟨_, exec_of_behaviourOf hb s⟩

theorem cyc_interruptEntry (target : Address) (brk : Bool) (s : State) :
    (interruptEntry target brk s).cyc = s.cyc := by
  rw [interruptEntry_eq]

theorem cyc_interruptThrough (vector : Address) (s : State) : (interruptThrough vector s).cyc = s.cyc := by
  rw [interruptThrough, cyc_interruptEntry, read16_eq]

theorem cyc_interrupt (isNmi : Bool) (s : State) : (interrupt isNmi s).cyc = s.cyc := by
  unfold interrupt
  split
  · exact cyc_interruptThrough _ s.clearBus
  · split
    · rfl
    · exact cyc_interruptThrough _ s.clearBus

/-- Settles O11: a defined instruction runs its behaviour, which leaves `CYC` to step 5 of rule R120. -/
theorem everyDefinedInstructionCompletes : Obligations.EveryDefinedInstructionCompletes := by
  unfold Obligations.EveryDefinedInstructionCompletes
  refine ⟨fun i s h => ?_, cyc_interrupt, fun target brk s => cyc_interruptEntry target brk s.clearBus,
    fun _ _ => rfl⟩
  obtain ⟨t, ht⟩ := exec_of_wellFormed h s
  obtain ⟨_, _, -, -, hcyc, -⟩ := accountsWithin_of_exec ht
  exact ⟨t, ht, hcyc⟩

/-! ### Moving the counters -/

/-- The same state with `CYC` and `DEPTH` moved. -/
def State.moveCounters (dc : CycleCount) (dd : Int) (s : State) : State :=
  { s with cyc := s.cyc + dc, depth := s.depth + dd }

/-- What a behaviour answers, with `CYC` and `DEPTH` moved in its state. -/
def Executed.moveCounters (dc : CycleCount) (dd : Int) (e : Executed) : Executed :=
  { e with state := e.state.moveCounters dc dd }

section

variable (dc : CycleCount) (dd : Int)

theorem effectiveAddress_moveCounters (m : MemOperand) (s : State) :
    effectiveAddress m (s.moveCounters dc dd) =
      ((effectiveAddress m s).1, (effectiveAddress m s).2.moveCounters dc dd) := by
  cases m <;> rfl

theorem readOperand_moveCounters (m : MemOperand) (s : State) :
    readOperand m (s.moveCounters dc dd) = ((readOperand m s).1, (readOperand m s).2.moveCounters dc dd) := by
  cases m <;> rfl

theorem interruptEntry_moveCounters (target : Address) (brk : Bool) (s : State) :
    interruptEntry target brk (s.moveCounters dc dd) = (interruptEntry target brk s).moveCounters dc dd := by
  simp only [interruptEntry_eq, State.moveCounters, Int.add_right_comm _ dd]

theorem read16_moveCounters (a : Address) (s : State) :
    read16 a (s.moveCounters dc dd) = ((read16 a s).1, (read16 a s).2.moveCounters dc dd) := rfl

theorem callSubroutine_moveCounters (m : MemOperand) (s : State) :
    callSubroutine m (s.moveCounters dc dd) = (callSubroutine m s).moveCounters dc dd := by
  simp only [callSubroutine, effectiveAddress_moveCounters, push16_eq]
  simp only [State.moveCounters, Executed.moveCounters, Executed.jump, State.setDepth, Int.add_right_comm _ dd]

theorem returnFromSubroutine_moveCounters (s : State) :
    returnFromSubroutine (s.moveCounters dc dd) = (returnFromSubroutine s).moveCounters dc dd := by
  simp only [returnFromSubroutine, pull16_eq, State.moveCounters, Executed.moveCounters, Executed.jump, State.setDepth,
    State.peek, Int.sub_eq_add_neg, Int.add_right_comm _ dd]

theorem interruptReturn_moveCounters (s : State) :
    interruptReturn (s.moveCounters dc dd) = (interruptReturn s).moveCounters dc dd := by
  simp only [interruptReturn, returnFromInterrupt_eq, State.moveCounters, Executed.moveCounters, Executed.jump,
    State.peek, Int.sub_eq_add_neg, Int.add_right_comm _ dd]

theorem softwareInterrupt_moveCounters (s : State) :
    softwareInterrupt (s.moveCounters dc dd) = (softwareInterrupt s).moveCounters dc dd := by
  simp only [softwareInterrupt, read16_moveCounters, interruptEntry_eq]
  simp only [State.moveCounters, State.setPc, Executed.moveCounters, Executed.jump, Int.add_right_comm _ dd]

theorem branchIf_moveCounters (cond : Bool) (off : Byte) (s : State) :
    branchIf cond off (s.moveCounters dc dd) = (branchIf cond off s).moveCounters dc dd := by
  cases cond <;> rfl

theorem branchOnBit_moveCounters (n : Fin 8) (bit : Bool) (zz off : Byte) (s : State) :
    branchOnBit n bit zz off (s.moveCounters dc dd) = (branchOnBit n bit zz off s).moveCounters dc dd := by
  simp only [branchOnBit, readOperand_moveCounters]
  split <;> rfl

/-- No behaviour reads `CYC` or `DEPTH` but to move it. -/
theorem behaviour_moveCounters {b : State → Executed} (h : IsBehaviour b) (s : State) :
    b (s.moveCounters dc dd) = (b s).moveCounters dc dd := by
  cases h with
  | loadA m | loadX m | loadY m | addToA m | subFromA m | andA m | orA m | eorA m | compareA m | compareX m
  | compareY m | bitOnlyZ m | bitMem m =>
    simp only [loadA, loadX, loadY, addToA, subFromA, andA, orA, eorA, logicA, compareA, compareX, compareY,
      compareWith, bitOnlyZ, bitMem, readOperand_moveCounters]
    rfl
  | storeA m | storeX m | storeY m | storeZero m | testAndSet m | testAndReset m | incMem m | decMem m | aslMem m
  | lsrMem m | rolMem m | rorMem m | resetMemBit n m | setMemBit n m | jumpTo m =>
    simp only [storeA, storeX, storeY, storeZero, storeByte, testAndSet, testAndReset, testAndWrite, incMem, decMem,
      stepMem, aslMem, lsrMem, rolMem, rorMem, shiftMem, resetMemBit, setMemBit, modifyByte, jumpTo,
      effectiveAddress_moveCounters]
    rfl
  | branchPlus off | branchMinus off | branchOverflowClear off | branchOverflowSet off | branchCarryClear off
  | branchCarrySet off | branchNotEqual off | branchEqual off | branchAlways off =>
    exact branchIf_moveCounters dc dd _ off s
  | branchBitReset n zz off | branchBitSet n zz off => exact branchOnBit_moveCounters dc dd n _ zz off s
  | callSubroutine m => exact callSubroutine_moveCounters dc dd m s
  | returnFromSubroutine => exact returnFromSubroutine_moveCounters dc dd s
  | softwareInterrupt => exact softwareInterrupt_moveCounters dc dd s
  | interruptReturn => exact interruptReturn_moveCounters dc dd s
  | _ => rfl

/-! ### Steps and interrupts -/

theorem genericFlags_moveCounters (mask : FlagMask) (r : Option Byte) (s : State) :
    genericFlags mask r (s.moveCounters dc dd) = (genericFlags mask r s).moveCounters dc dd := by
  cases r <;> rfl

theorem runOpcode_moveCounters {op : Byte} {b : State → Executed} (hb : IsBehaviour b) {s t : State}
    (h : runOpcode op b s = .next t) : runOpcode op b (s.moveCounters dc dd) = .next (t.moveCounters dc dd) := by
  cases h
  rw [runOpcode_eq, behaviour_moveCounters dc dd hb]
  simp only [Executed.moveCounters, genericFlags_moveCounters]
  simp only [State.moveCounters, State.setCyc, State.setPc, add_right_comm _ dc]

theorem exec_moveCounters_of_next {i : Instr} {s t : State} (h : exec i s = .next t) :
    exec i (s.moveCounters dc dd) = .next (t.moveCounters dc dd) := by
  obtain ⟨b, hb, hrun⟩ | ⟨-, hfault⟩ := exec_cases i s
  · rw [exec_of_behaviourOf hb]
    exact runOpcode_moveCounters dc dd (isBehaviour_of_behaviourOf hb) (hrun.symm.trans h)
  · cases hfault.symm.trans h

theorem step_moveCounters (s : State) : step (s.moveCounters dc dd) =
    exec (instrAt s) (State.moveCounters dc dd { s with bus := fetchReads s }) :=
  step_eq (s.moveCounters dc dd)

theorem step_moveCounters_of_next {s t : State} (h : step s = .next t) :
    step (s.moveCounters dc dd) = .next (t.moveCounters dc dd) := by
  rw [step_moveCounters]
  rw [step_eq] at h
  exact exec_moveCounters_of_next dc dd h

theorem step_moveCounters_of_fault {s : State} {r : Fault} (h : step s = .fault r) :
    step (s.moveCounters dc dd) = .fault r := by
  by_cases hundef : (descriptor (s.peek s.pc)).mnemonic = .undefined
  · exact (step_of_undefined (s := s.moveCounters dc dd) hundef).trans ((step_of_undefined hundef).symm.trans h)
  · obtain ⟨t, ht⟩ := step_of_ne_undefined hundef
    cases ht.symm.trans h

theorem interruptThrough_moveCounters (vector : Address) (s : State) :
    interruptThrough vector (s.moveCounters dc dd) = (interruptThrough vector s).moveCounters dc dd := by
  simp only [interruptThrough, read16_moveCounters, interruptEntry_moveCounters]

theorem interrupt_moveCounters (isNmi : Bool) (s : State) :
    interrupt isNmi (s.moveCounters dc dd) = (interrupt isNmi s).moveCounters dc dd := by
  unfold interrupt
  split
  · exact interruptThrough_moveCounters dc dd _ s.clearBus
  · have hmask : (s.moveCounters dc dd).flags.i = s.flags.i := rfl
    rw [hmask]
    split
    · rfl
    · exact interruptThrough_moveCounters dc dd _ s.clearBus

theorem interruptAt_moveCounters (target : Address) (brk : Bool) (s : State) :
    interruptAt target brk (s.moveCounters dc dd) = (interruptAt target brk s).moveCounters dc dd :=
  interruptEntry_moveCounters dc dd target brk s.clearBus

end

/-- Every control transaction starts with an empty record of the bus (log entry 4), so only the counters are left to
differ. -/
theorem clearBus_counters (s : State) (c : CycleCount) (d : Int) (l : List BusAccess) :
    State.clearBus { s with cyc := c, depth := d, bus := l } =
      (s.moveCounters (c - s.cyc) (d - s.depth)).clearBus := by
  simp only [State.clearBus, State.setBus, State.moveCounters, add_sub_cancel]

theorem step_clearBus (s : State) : step s.clearBus = step s := rfl

theorem interrupt_clearBus (isNmi : Bool) (s : State) : interrupt isNmi s.clearBus = interrupt isNmi s := rfl

theorem interruptAt_clearBus (target : Address) (brk : Bool) (s : State) :
    interruptAt target brk s.clearBus = interruptAt target brk s := rfl

/-- Settles O59: moving the counters commutes with every behaviour, hence with a step and with every interrupt entry. -/
theorem countersAreUnobservable : Obligations.CountersAreUnobservable := by
  unfold Obligations.CountersAreUnobservable
  intro s c d l s'
  have hclear : s'.clearBus = (s.moveCounters (c - s.cyc) (d - s.depth)).clearBus := clearBus_counters s c d l
  refine ⟨fun t ht => ?next, fun r hr => ?fault, fun isNmi => ?interrupt, fun target brk => ?interruptAt⟩
  case next =>
    rw [← step_clearBus, hclear, step_clearBus]
    exact step_moveCounters_of_next _ _ ht
  case fault =>
    rw [← step_clearBus, hclear, step_clearBus]
    exact step_moveCounters_of_fault _ _ hr
  case interrupt =>
    rw [← interrupt_clearBus, hclear, interrupt_clearBus, interrupt_moveCounters, State.moveCounters, cyc_interrupt,
      add_sub_cancel]
  case interruptAt =>
    rw [← interruptAt_clearBus, hclear, interruptAt_clearBus, interruptAt_moveCounters, State.moveCounters,
      interruptAt, cyc_interruptEntry, State.clearBus_cyc, add_sub_cancel]

end Sys2Proof.Machine
end

section
/-! PROOFS, family other. O16, O18, O19 and O20: addition, subtraction and comparison on numbers (rules R100 to R105). -/

namespace Sys2Proof.Machine

/-! ### The two sums -/

theorem toNat_lowDigit (b : Byte) : (b &&& 0x0F#8).toNat = b.toNat % 16 :=
  (BitVec.toNat_and b 0x0F#8).trans (Nat.and_two_pow_sub_one_eq_mod b.toNat 4)

theorem toNat_highDigit : ∀ b : Byte, (b &&& 0xF0#8).toNat = 16 * (b.toNat / 16) := by decide

theorem decimalSum_eq (a m : Byte) (cin : Bool) :
    config.decimalSum a m cin = specSum true a.toNat m.toNat cin.toNat := by
  simp only [config, decimalSumDefault, specSum, toNat_lowDigit, toNat_highDigit, if_true, ge_iff_le, ← Nat.not_lt,
    ite_not]

/-- The unbounded sum of rule R100, in both modes. -/
theorem sum_eq_specSum (a m : Byte) (cin dec : Bool) :
    (if dec then config.decimalSum a m cin else binarySum a m cin) = specSum dec a.toNat m.toNat cin.toNat := by
  cases dec with
  | false => rfl
  | true => exact decimalSum_eq a m cin

theorem overflow_eq_signsOverflow (a m r : Byte) : overflow a m r = signsOverflow a m r := by
  rw [Bool.eq_iff_iff, overflow_iff_msb, signsOverflow, Bool.and_eq_true, beq_iff_eq, bne_iff_ne]
  exact and_congr_right' ne_comm

theorem addWithCarry_eq (a m : Byte) (cin dec : Bool) : addWithCarry a m cin dec =
    { result := BitVec.ofNat 8 (specSum dec a.toNat m.toNat cin.toNat)
      carry := decide (255 < specSum dec a.toNat m.toNat cin.toNat)
      overflow := signsOverflow a m (BitVec.ofNat 8 (specSum dec a.toNat m.toNat cin.toNat)) } := by
  simp only [addWithCarry, sum_eq_specSum, overflow_eq_signsOverflow]

/-- Settles O16: the model's sum is that of rule R100 in both modes, and its overflow test compares signs. -/
theorem addWithCarryFollowsItsSum : Obligations.AddWithCarryFollowsItsSum := by
  unfold Obligations.AddWithCarryFollowsItsSum
  intro a m cin dec
  rw [addWithCarry_eq]
  exact ⟨BitVec.toNat_ofNat _ 8, rfl, rfl⟩

/-! ### Subtraction -/

theorem toNat_ofNat_specSubtrahend (dec : Bool) {m : Nat} (hm : m < 256) :
    (BitVec.ofNat 8 (specSubtrahend dec m)).toNat = specSubtrahend dec m := by
  rw [BitVec.toNat_ofNat, Nat.mod_eq_of_lt]
  cases dec <;> simp only [specSubtrahend, if_true, Bool.false_eq_true, if_false] <;> omega

theorem subtrahend_eq (m : Byte) (dec : Bool) : subtrahend m dec = BitVec.ofNat 8 (specSubtrahend dec m.toNat) := by
  apply BitVec.eq_of_toNat_eq
  rw [toNat_ofNat_specSubtrahend dec m.isLt]
  cases dec with
  | false =>
    have hcomplement : m ^^^ 0xFF#8 = ~~~m := BitVec.xor_allOnes
    exact (congrArg BitVec.toNat hcomplement).trans BitVec.toNat_not
  | true =>
    have hm := m.isLt
    refine (BitVec.toNat_sub 0x99#8 m).trans (congrArg (· % 256) ?_)
    change 256 - m.toNat + 153 = 153 + 256 - m.toNat
    omega

theorem subWithCarry_eq (a m : Byte) (cin dec : Bool) : subWithCarry a m cin dec =
    addWithCarry a (BitVec.ofNat 8 (specSubtrahend dec m.toNat)) cin dec := by
  rw [subWithCarry, subtrahend_eq]

/-- The sum a subtraction makes. -/
theorem subWithCarry_sum (a m : Byte) (cin dec : Bool) :
    specSum dec a.toNat (BitVec.ofNat 8 (specSubtrahend dec m.toNat)).toNat cin.toNat =
      specSum dec a.toNat (specSubtrahend dec m.toNat) cin.toNat := by
  rw [toNat_ofNat_specSubtrahend dec m.isLt]

/-- Settles O19: the one's complement makes the binary sum `a + (255 - m) + c`, which is the difference and 256 more. -/
theorem subtractIsTransformedAdd : Obligations.SubtractIsTransformedAdd := by
  unfold Obligations.SubtractIsTransformedAdd
  intro a m cin dec
  have hm := m.isLt
  have hcin := cin.toNat_le
  have hsum : specSum false a.toNat (BitVec.ofNat 8 (specSubtrahend false m.toNat)).toNat cin.toNat =
      a.toNat + (255 - m.toNat) + cin.toNat := subWithCarry_sum a m cin false
  refine ⟨subWithCarry_eq a m cin dec, ?result, ?carry⟩
  case result =>
    rw [subWithCarry_eq, addWithCarry_eq, hsum, BitVec.toNat_ofNat]
    omega
  case carry =>
    rw [subWithCarry_eq, addWithCarry_eq, hsum, decide_eq_true_iff]
    omega

/-! ### Decimal arithmetic -/

theorem validBcd_iff (b : Byte) : validBcd b = true ↔ b.toNat % 16 ≤ 9 ∧ b.toNat / 16 ≤ 9 := by
  simp [validBcd]

/-- On decimal digits the two corrections carry each digit at ten: the sum holds the two digits `hi`, `lo` of the decimal
sum, and leaves the byte range exactly when the decimal sum has a third. -/
theorem specSum_decimal {a m c : Nat} (ha : a % 16 ≤ 9 ∧ a / 16 ≤ 9) (hm : m % 16 ≤ 9 ∧ m / 16 ≤ 9) (hc : c ≤ 1) :
    ∃ hi lo, hi ≤ 9 ∧ lo ≤ 9 ∧ specSum true a m c % 256 = 16 * hi + lo ∧
      (10 * (a / 16) + a % 16 + (10 * (m / 16) + m % 16) + c) % 100 = 10 * hi + lo ∧
      (255 < specSum true a m c ↔ 100 ≤ 10 * (a / 16) + a % 16 + (10 * (m / 16) + m % 16) + c) := by
  simp only [specSum, if_true]
  generalize a % 16 = al, a / 16 = ah at *
  generalize m % 16 = ml, m / 16 = mh at *
  split <;> split
  · exact ⟨ah + mh, al + ml + c, by omega⟩
  · exact ⟨ah + mh - 10, al + ml + c, by omega⟩
  · exact ⟨ah + mh + 1, al + ml + c - 10, by omega⟩
  · exact ⟨ah + mh + 1 - 10, al + ml + c - 10, by omega⟩

/-- Decimal addition (rule R103). -/
theorem addWithCarry_decimal {a m : Byte} (cin : Bool) (ha : validBcd a = true) (hm : validBcd m = true) :
    validBcd (addWithCarry a m cin true).result = true ∧
      bcdValue (addWithCarry a m cin true).result = (bcdValue a + bcdValue m + cin.toNat) % 100 ∧
      ((addWithCarry a m cin true).carry = true ↔ 100 ≤ bcdValue a + bcdValue m + cin.toNat) := by
  obtain ⟨hi, lo, hhi, hlo, hsum, hvalue, hcarry⟩ :=
    specSum_decimal ((validBcd_iff a).mp ha) ((validBcd_iff m).mp hm) cin.toNat_le
  have hresult : (addWithCarry a m cin true).result.toNat = 16 * hi + lo := by
    rw [addWithCarry_eq, BitVec.toNat_ofNat]
    exact hsum
  refine ⟨(validBcd_iff _).mpr ?_, ?_, ?_⟩
  · rw [hresult]
    omega
  · simp only [bcdValue, hresult, hvalue]
    omega
  · rw [addWithCarry_eq, decide_eq_true_iff]
    exact hcarry

/-- The operand of a decimal subtraction is the nines' complement. -/
theorem bcdValue_subtrahend {m : Byte} (hm : validBcd m = true) :
    validBcd (subtrahend m true) = true ∧ bcdValue (subtrahend m true) + bcdValue m = 99 := by
  have hlt := m.isLt
  obtain ⟨hlow, hhigh⟩ := (validBcd_iff m).mp hm
  have hcomplement : (subtrahend m true).toNat = (153 + 256 - m.toNat) % 256 := by
    rw [subtrahend_eq, toNat_ofNat_specSubtrahend true hlt]
    rfl
  rw [validBcd_iff, bcdValue, bcdValue, hcomplement]
  omega

/-- Settles O18: the corrected sum holds the two digits of the decimal sum, and a subtraction adds the nines'
complement. -/
theorem decimalModeIsDecimalArithmetic : Obligations.DecimalModeIsDecimalArithmetic := by
  unfold Obligations.DecimalModeIsDecimalArithmetic
  intro a m cin ha hm sum diff
  obtain ⟨hvalid, hnines⟩ := bcdValue_subtrahend hm
  obtain ⟨haddValid, haddValue, haddCarry⟩ := addWithCarry_decimal cin ha hm
  obtain ⟨hsubValid, hsubValue, hsubCarry⟩ := addWithCarry_decimal cin ha hvalid
  have hcin := cin.toNat_le
  refine ⟨haddValid, haddValue, haddCarry, hsubValid, ?_, hsubCarry.trans ?_⟩
  · rw [subWithCarry, hsubValue]
    omega
  · omega

/-- Settles O20: the wrapped difference of bytes, which is 0 only for equal bytes. -/
theorem compareIsUnsigned : Obligations.CompareIsUnsigned := by
  unfold Obligations.CompareIsUnsigned
  intro reg m
  refine ⟨?_, decide_eq_true_iff, ?_⟩
  · rw [compareResult, BitVec.toNat_sub]
    have := m.isLt
    omega
  · rw [compareResult, BitVec.sub_eq_iff_eq_add, BitVec.zero_add]

end Sys2Proof.Machine
end

section
/-! PROOFS, family other. O21 and O22: the status byte and the generic flag rule (rules R107 to R110). -/

namespace Sys2Proof.Machine

theorem pack_toNat_of_bits : ∀ n v d i z c brk : Bool, (pack brk ⟨n, v, d, i, z, c⟩).toNat =
    128 * n.toNat + 64 * v.toNat + 32 + 16 * brk.toNat + 8 * d.toNat + 4 * i.toNat + 2 * z.toNat + c.toNat := by
  decide

theorem unpack_pack_of_bits : ∀ n v d i z c brk : Bool, unpack (pack brk ⟨n, v, d, i, z, c⟩) = ⟨n, v, d, i, z, c⟩ := by
  decide

theorem pack_toNat (brk : Bool) (f : Flags) : (pack brk f).toNat = 128 * f.n.toNat + 64 * f.v.toNat + 32 +
    16 * brk.toNat + 8 * f.d.toNat + 4 * f.i.toNat + 2 * f.z.toNat + f.c.toNat :=
  pack_toNat_of_bits f.n f.v f.d f.i f.z f.c brk

theorem unpack_pack (brk : Bool) (f : Flags) : unpack (pack brk f) = f :=
  unpack_pack_of_bits f.n f.v f.d f.i f.z f.c brk

/-- The byte pushed is that of rule R107 on numbers. -/
theorem pack_eq_statusByte (brk : Bool) (f : Flags) : pack brk f = statusByte brk f := by
  rw [statusByte, ← pack_toNat, BitVec.ofNat_toNat, BitVec.setWidth_eq]

theorem pack_unpack : ∀ (b : Byte) (k : Bool),
    pack k (unpack b) = (b &&& 0xCF#8) ||| 0x20#8 ||| (if k then 0x10#8 else 0x00#8) := by decide

/-- Settles O21: the bits of `Pack` are apart, so `Unpack` finds each where it was put. -/
theorem packAndUnpackRoundTrip : Obligations.PackAndUnpackRoundTrip := by
  unfold Obligations.PackAndUnpackRoundTrip
  exact ⟨fun f brk => pack_toNat brk f, unpack_eq_statusFlags, fun f brk => unpack_pack brk f, pack_unpack⟩

/-- Settles O22: a byte is 0 when its number is, and its bits are those of its number. -/
theorem genericFlagRule : Obligations.GenericFlagRule := by
  unfold Obligations.GenericFlagRule
  intro r f
  have hzero : r = 0#8 ↔ r.toNat = 0 := BitVec.toNat_inj.symm
  simp only [setNZ, hzero, BitVec.testBit_toNat, and_self]

end Sys2Proof.Machine
end

section
/-! PROOFS, family other. O24, O27 to O30: the instructions that read their operand and store nothing (rules R140 to R142,
R160 to R168). -/

namespace Sys2Proof.Machine

/-! ### The operand in step 3 of rule R120 -/

/-- The state after the reads of an operand. -/
def State.afterReads (m : MemOperand) (s : State) : State := { s with bus := s.bus ++ operandReads m s }

theorem readOperand_eq_afterReads (m : MemOperand) (s : State) :
    readOperand m s = (operandByte m s, s.afterReads m) := readOperand_eq m s

/-! ### Loads -/

/-- A mnemonic loads by its rule when its behaviour reads the operand, writes it with `w` to a register, and has it for
result; `rows` are its rows of the decoder table. -/
theorem loadRule_of_withResult {mn : Mnemonic} {rows : List (Byte × Mode)} {writes : State → State → Byte → Prop}
    (w : Byte → State → State) (hnz : mn ∈ nzMnemonics)
    (hmem : ∀ o, behaviourOf mn o =
      onMem (fun m s => .withResult (w (readOperand m s).1 (readOperand m s).2) (readOperand m s).1) o)
    (hframe : ∀ v s, w v s = { s with a := (w v s).a, x := (w v s).x, y := (w v s).y })
    (hwrites : ∀ s m v pc cyc flags, writes s { w v (s.afterReads m) with pc := pc, cyc := cyc, flags := flags } v)
    (hrows : ∀ op, (descriptor op).mnemonic = mn → ∃ p ∈ rows, op = p.1 ∧ (descriptor op).mode = some p.2) :
    LoadRule mn rows writes := by
  rintro i s rfl
  have hdefined : i.mnemonic ≠ .undefined := fun h => absurd (h ▸ hnz) (by decide)
  obtain ⟨m, hm, hexec⟩ := exec_of_onMem hdefined (hmem i.operand)
  have hstep := hexec s
  rw [runOpcode_withResult (flagMask_of_mem_nzMnemonics hnz) (fun s => w (readOperand m s).1 (readOperand m s).2),
    readOperand_eq_afterReads] at hstep
  refine ⟨hrows i.opcode rfl, m, hm, _, hstep, hwrites .., ?_⟩
  rw [hframe]
  exact ⟨rfl, rfl, rfl, fun _ => rfl, ⟨rfl, rfl⟩, rfl⟩

/-- Settles O24: each of the three writes the operand byte to its register and has it for result. -/
theorem loadsWriteRegisterAndFlags : Obligations.LoadsWriteRegisterAndFlags := by
  unfold Obligations.LoadsWriteRegisterAndFlags
  refine ⟨?lda, ?ldx, ?ldy⟩
  case lda =>
    exact loadRule_of_withResult (fun v s => s.setA v) (by decide) (fun _ => rfl) (fun _ _ => rfl)
      (fun _ _ _ _ _ _ => ⟨rfl, rfl, rfl⟩) (by decide)
  case ldx =>
    exact loadRule_of_withResult (fun v s => s.setX v) (by decide) (fun _ => rfl) (fun _ _ => rfl)
      (fun _ _ _ _ _ _ => ⟨rfl, rfl, rfl⟩) (by decide)
  case ldy =>
    exact loadRule_of_withResult (fun v s => s.setY v) (by decide) (fun _ => rfl) (fun _ _ => rfl)
      (fun _ _ _ _ _ _ => ⟨rfl, rfl, rfl⟩) (by decide)

/-! ### Logic, comparison and arithmetic -/

/-- A mnemonic follows its read rule when its behaviour, after the reads of the operand, writes `A` and the flags as the
rule says and has the result `r` for the generic flag rule; `rows` are its rows of the decoder table. -/
theorem readRule_of_withResult {mn : Mnemonic} {rows : List (Byte × Mode)} {newA r : State → Byte → Byte}
    {flags : State → Byte → Flags} {f : MemOperand → State → Executed} (hnz : mn ∈ nzMnemonics)
    (hmem : ∀ o, behaviourOf mn o = onMem f o)
    (hf : ∀ m s, f m s = .withResult
      { s.afterReads m with a := newA s (operandByte m s), flags := flags s (operandByte m s) } (r s (operandByte m s)))
    (hrows : ∀ op, (descriptor op).mnemonic = mn → ∃ p ∈ rows, op = p.1 ∧ (descriptor op).mode = some p.2) :
    ReadRule mn rows newA fun s v => resultFlags (r s v) (flags s v) := by
  rintro i s rfl
  have hdefined : i.mnemonic ≠ .undefined := fun h => absurd (h ▸ hnz) (by decide)
  obtain ⟨m, hm, hexec⟩ := exec_of_onMem hdefined (hmem i.operand)
  have hstep := hexec s
  rw [funext (hf m), runOpcode_withResult (flagMask_of_mem_nzMnemonics hnz)] at hstep
  exact ⟨hrows i.opcode rfl, m, hm, _, hstep, rfl, rfl, rfl, rfl, rfl, rfl, fun _ => rfl, ⟨rfl, rfl⟩, rfl⟩

theorem logicA_eq (op : Byte → Byte → Byte) (m : MemOperand) (s : State) :
    logicA op m s = .withResult { s.afterReads m with a := op s.a (operandByte m s), flags := s.flags }
      (op s.a (operandByte m s)) := by
  rw [logicA, readOperand_eq_afterReads]
  rfl

/-- Settles O28: the three are `logicA` of one operation each. -/
theorem logicInstructions : Obligations.LogicInstructions := by
  unfold Obligations.LogicInstructions
  refine ⟨?and, ?ora, ?eor⟩
  case and => exact readRule_of_withResult (by decide) (fun _ => rfl) (logicA_eq fun a v => a &&& v) (by decide)
  case ora => exact readRule_of_withResult (by decide) (fun _ => rfl) (logicA_eq fun a v => a ||| v) (by decide)
  case eor => exact readRule_of_withResult (by decide) (fun _ => rfl) (logicA_eq fun a v => a ^^^ v) (by decide)

theorem compareResult_eq (reg m : Byte) : compareResult reg m = BitVec.ofNat 8 (256 + reg.toNat - m.toNat) := by
  have hm := m.isLt
  apply BitVec.eq_of_toNat_eq
  rw [compareResult, BitVec.toNat_sub, BitVec.toNat_ofNat]
  omega

theorem compareWith_eq (reg : State → Byte) (m : MemOperand) (s : State) :
    compareWith (reg s) m s = .withResult
      { s.afterReads m with
        a := s.a, flags := { s.flags with c := decide ((operandByte m s).toNat ≤ (reg s).toNat) } }
      (BitVec.ofNat 8 (256 + (reg s).toNat - (operandByte m s).toNat)) := by
  rw [compareWith, readOperand_eq_afterReads, ← compareResult_eq]
  rfl

/-- Settles O29: the three are `compareWith` one register each, and leave `A` as it is. -/
theorem compareInstructions : Obligations.CompareInstructions := by
  unfold Obligations.CompareInstructions
  refine ⟨?cmp, ?cpx, ?cpy⟩
  case cmp => exact readRule_of_withResult (by decide) (fun _ => rfl) (compareWith_eq fun s => s.a) (by decide)
  case cpx => exact readRule_of_withResult (by decide) (fun _ => rfl) (compareWith_eq fun s => s.x) (by decide)
  case cpy => exact readRule_of_withResult (by decide) (fun _ => rfl) (compareWith_eq fun s => s.y) (by decide)

theorem addToA_eq (m : MemOperand) (s : State) : addToA m s = .withResult
    { s.afterReads m with
      a := BitVec.ofNat 8 (adcSum s (operandByte m s))
      flags := { s.flags with
        c := decide (255 < adcSum s (operandByte m s))
        v := signsOverflow s.a (operandByte m s) (BitVec.ofNat 8 (adcSum s (operandByte m s))) } }
    (BitVec.ofNat 8 (adcSum s (operandByte m s))) := by
  rw [addToA, readOperand_eq_afterReads, addWithCarry_eq]
  rfl

theorem sbc_sum_eq (s : State) (v : Byte) :
    specSum s.flags.d s.a.toNat (BitVec.ofNat 8 (specSubtrahend s.flags.d v.toNat)).toNat s.flags.c.toNat =
      sbcSum s v :=
  subWithCarry_sum s.a v s.flags.c s.flags.d

theorem subFromA_eq (m : MemOperand) (s : State) : subFromA m s = .withResult
    { s.afterReads m with
      a := BitVec.ofNat 8 (sbcSum s (operandByte m s))
      flags := { s.flags with
        c := decide (255 < sbcSum s (operandByte m s))
        v := signsOverflow s.a (BitVec.ofNat 8 (specSubtrahend s.flags.d (operandByte m s).toNat))
          (BitVec.ofNat 8 (sbcSum s (operandByte m s))) } }
    (BitVec.ofNat 8 (sbcSum s (operandByte m s))) := by
  rw [subFromA, readOperand_eq_afterReads, subWithCarry_eq, addWithCarry_eq, sbc_sum_eq]
  rfl

/-- Settles O27: both write the sum of rule R100, `SBC` that of the transformed operand. -/
theorem addAndSubtractInstructions : Obligations.AddAndSubtractInstructions := by
  unfold Obligations.AddAndSubtractInstructions
  refine ⟨?adc, ?sbc⟩
  case adc => exact readRule_of_withResult (by decide) (fun _ => rfl) addToA_eq (by decide)
  case sbc => exact readRule_of_withResult (by decide) (fun _ => rfl) subFromA_eq (by decide)

/-! ### `BIT` -/

/-- The immediate form of `BIT` is the opcode whose flag mask is empty (rule R66). -/
theorem bit_row : ∀ op : Byte, (descriptor op).mnemonic = .bit →
    if (descriptor op).mode = some .imm then op = 0x89#8 ∧ (descriptor op).flagMask = .none
    else op ≠ 0x89#8 ∧ (descriptor op).flagMask = .n := by decide

theorem bitMem_eq (m : MemOperand) (s : State) : bitMem m s = .withResult
    { s.afterReads m with
      flags := { s.flags with z := testZero s.a (operandByte m s), v := (operandByte m s).getLsbD 6 } }
    (operandByte m s) := by
  rw [bitMem, readOperand_eq_afterReads]
  rfl

theorem bitOnlyZ_eq (m : MemOperand) (s : State) : bitOnlyZ m s = .plain
    { s.afterReads m with flags := { s.flags with z := testZero s.a (operandByte m s) } } := by
  rw [bitOnlyZ, readOperand_eq_afterReads]
  rfl

theorem bitBehaviour_of_imm {m : MemOperand} (h : m.mode = .imm) : bitBehaviour m = bitOnlyZ m := by
  cases m with
  | imm nn => rfl
  | _ => cases h

theorem bitBehaviour_of_ne_imm {m : MemOperand} (h : m.mode ≠ .imm) : bitBehaviour m = bitMem m := by
  cases m with
  | imm nn => exact absurd rfl h
  | _ => rfl

/-- The flags `BIT` leaves, in immediate mode and in the memory modes (rule R168). -/
theorem exec_bit {i : Instr} (hbit : i.mnemonic = .bit) (s : State) : ∃ m, i.operand = some (.mem m) ∧
    exec i s = .next { s.afterReads m with
      flags := if i.opcode = 0x89#8 then { s.flags with z := decide (s.a &&& operandByte m s = 0#8) }
        else { s.flags with
          z := decide (s.a &&& operandByte m s = 0#8)
          v := (operandByte m s).toNat.testBit 6
          n := (operandByte m s).toNat.testBit 7 }
      pc := s.pc + BitVec.ofNat 16 i.length, cyc := s.cyc + BitVec.ofNat 64 i.baseCycles } := by
  obtain ⟨m, hm, hexec⟩ : ∃ m, i.operand = some (.mem m) ∧ ∀ s, exec i s = runOpcode i.opcode (bitBehaviour m) s :=
    exec_of_onMem (by rw [hbit]; exact nofun) (by rw [hbit]; rfl)
  have hmode : (descriptor i.opcode).mode = some m.mode := mode_of_operand hm
  refine ⟨m, hm, ?_⟩
  have hrow := bit_row i.opcode hbit
  split at hrow
  next himm =>
    obtain ⟨hop, -⟩ := hrow
    rw [hexec, bitBehaviour_of_imm (Option.some.inj (hmode.symm.trans himm)), runOpcode_eq, bitOnlyZ_eq, if_pos hop]
    rfl
  next hne =>
    obtain ⟨hop, hmask⟩ := hrow
    rw [hexec, bitBehaviour_of_ne_imm (fun h => hne (hmode.trans (congrArg some h))), runOpcode_eq, bitMem_eq, hmask,
      if_neg hop, BitVec.testBit_toNat, BitVec.testBit_toNat]
    rfl

theorem bit_rows : ∀ op : Byte, (descriptor op).mnemonic = .bit →
    ∃ p ∈ [(0x24#8, Mode.zp), (0x34#8, .zpx), (0x2C#8, .abs), (0x3C#8, .absx), (0x89#8, .imm)],
      op = p.1 ∧ (descriptor op).mode = some p.2 := by decide

/-- Settles O30: the operand of every form is in `exec_bit`, with the flags of either kind. -/
theorem bitInstruction : Obligations.BitInstruction := by
  unfold Obligations.BitInstruction
  intro i s hbit
  obtain ⟨m, hm, hexec⟩ := exec_bit hbit s
  exact ⟨bit_rows i.opcode hbit, m, hm, _, hexec, rfl, rfl, rfl, rfl, rfl, rfl, fun _ => rfl, ⟨rfl, rfl⟩, rfl⟩

end Sys2Proof.Machine
end

section
/-! PROOFS, family other. O37 to O40: subroutine call and return, and the relative branches (rules R201 to R212). -/

namespace Sys2Proof.Machine

/-! ### Call and return -/

theorem behaviourOf_jsr (addr : Address) :
    behaviourOf (Instr.jsrAbs addr).mnemonic (Instr.jsrAbs addr).operand = some (callSubroutine (.abs addr)) := by
  simp only [Instr.mnemonic, Instr.descriptor, Instr.opcode, Instr.operand]
  rfl

theorem baseCycles_jsr (addr : Address) : (Instr.jsrAbs addr).baseCycles = 6 := by
  simp only [Instr.baseCycles, Instr.descriptor, Instr.opcode]
  rfl

/-- `JSR` in a state: what `Push16` leaves, with the call counted and control at its operand. -/
theorem exec_jsr (addr : Address) (s : State) : exec (.jsrAbs addr) s = .next { s with
    pc := addr
    sp := (push16 (s.pc + 2#16) s).sp
    cyc := s.cyc + 6#64
    depth := s.depth + 1
    mem := (push16 (s.pc + 2#16) s).mem
    bus := (push16 (s.pc + 2#16) s).bus } := by
  have hexec := exec_of_jump (w := fun s => (push16 (s.pc + 2#16) s).setDepth ((push16 (s.pc + 2#16) s).depth + 1))
    (target := fun _ => addr) (behaviourOf_jsr addr) s
  simp only [baseCycles_jsr, push16_eq] at hexec ⊢
  exact hexec

/-- `RTS` in a state: what `Pull16` leaves, with the call uncounted and control past the pulled word. -/
theorem exec_rts (s : State) : exec .rts s = .next { s with
    pc := stackedWord 1 s + 1#16
    sp := s.sp + 2#8
    cyc := s.cyc + 6#64
    depth := s.depth - 1
    bus := s.bus ++ pullReads 2 s } := by
  have hexec : exec .rts s = .next { (pull16 s).2 with
      depth := (pull16 s).2.depth - 1, pc := (pull16 s).1 + 1#16, cyc := (pull16 s).2.cyc + 6#64 } :=
    exec_of_jump (w := fun s => (pull16 s).2.setDepth ((pull16 s).2.depth - 1)) (target := fun s => (pull16 s).1 + 1#16)
      rfl s
  rwa [pull16_fst, pull16_snd, ofNat_toNat_add] at hexec

theorem push16_sp (w : Address) (s : State) : (push16 w s).sp = BitVec.ofNat 8 (s.sp.toNat + 254) := by
  apply BitVec.eq_of_toNat_eq
  rw [push16_sp_toNat, BitVec.toNat_ofNat]

theorem push16_bus (w : Address) (s : State) : (push16 w s).bus =
    s.bus ++ [.write (stackSlot 0 s) (hiByte w), .write (stackSlot 1 s) (loByte w)] := by
  rw [stackSlot_zero, stackSlot_one, push16_eq]

theorem peek_push16_high (w : Address) (s : State) : (push16 w s).peek (stackSlot 0 s) = hiByte w := by
  rw [peek_push16, if_neg (stackSlot_zero_ne_one s), if_pos rfl]

theorem peek_push16_low (w : Address) (s : State) : (push16 w s).peek (stackSlot 1 s) = loByte w := by
  rw [peek_push16, if_pos rfl]

theorem peek_push16_other (w : Address) {s : State} {b : Address} (hhigh : b ≠ stackSlot 0 s)
    (hlow : b ≠ stackSlot 1 s) : (push16 w s).peek b = s.peek b := by
  rw [peek_push16, if_neg hlow, if_neg hhigh]

/-- Settles O37: `JSR` is `Push16` of the address of its last byte. -/
theorem jsrPushesReturnAddress : Obligations.JsrPushesReturnAddress := by
  unfold Obligations.JsrPushesReturnAddress
  intro addr s
  refine ⟨by simp only [Instr.opcode], _, exec_jsr addr s, ?_⟩
  rw [ofNat_toNat_add]
  dsimp only
  exact ⟨peek_push16_high (s.pc + 2#16) s, peek_push16_low (s.pc + 2#16) s, fun _ => peek_push16_other (s.pc + 2#16),
    push16_sp _ s, rfl, ⟨rfl, by rw [baseCycles_jsr]⟩, rfl, rfl, rfl, rfl, push16_bus _ s⟩

/-- Settles O38: `RTS` is `Pull16`. -/
theorem rtsReturnsPastPulledWord : Obligations.RtsReturnsPastPulledWord := by
  unfold Obligations.RtsReturnsPastPulledWord
  refine ⟨rfl, fun s => ⟨_, exec_rts s, ?_⟩⟩
  rw [ofNat_toNat_add, ofNat_toNat_add]
  exact ⟨⟨rfl, rfl⟩, rfl, rfl, fun _ => rfl, rfl, rfl, rfl, rfl, rfl⟩

/-- Settles O39: `Pull16` gives back the word `Push16` pushed (rule R128), the address before the next instruction. -/
theorem jsrThenRtsReturns : Obligations.JsrThenRtsReturns := by
  unfold Obligations.JsrThenRtsReturns
  intro addr s t hjsr
  rw [exec_jsr] at hjsr
  cases hjsr
  refine ⟨_, exec_rts _, ?pc, ?sp, ?depth, rfl, rfl, rfl, rfl, ?cyc⟩
  case pc =>
    have hword : stackedWord 1 (push16 (s.pc + 2#16) s) = s.pc + 2#16 := by rw [← pull16_fst, pull16_push16_fst]
    exact (congrArg (· + 1#16) hword).trans (BitVec.add_assoc ..)
  case sp => exact push16_sp_add_two (s.pc + 2#16) s
  case depth => exact Int.add_sub_cancel s.depth 1
  case cyc => exact BitVec.add_assoc ..

/-! ### Branches on a flag -/

/-- A branch whose behaviour is `branchIf` of a condition on the flags. -/
theorem branchRule_of_branchIf {make : Byte → Instr} {op : Byte} {cycles : Nat} {cond : Flags → Bool}
    (hop : ∀ off, (make off).opcode = op) (hcycles : (descriptor op).baseCycles = cycles)
    (hrel : ∀ off, (make off).operand = some (.rel off))
    (hb : ∀ off, behaviourOf (descriptor op).mnemonic (some (.rel off)) =
      some fun s => branchIf (cond s.flags) off s) :
    BranchRule make op cycles cond := by
  intro off s
  have hexec : exec (make off) s = runOpcode (make off).opcode (fun s => branchIf (cond s.flags) off s) s :=
    exec_of_behaviourOf (by rw [hrel, Instr.mnemonic, Instr.descriptor, hop, hb]) s
  refine ⟨hop off, by rw [Instr.baseCycles, Instr.descriptor, hop, hcycles], hrel off, ?_⟩
  have hcompletes := completes_of_reads (reads := []) hexec (by cases cond s.flags <;> rfl)
    (by rw [branchIf_state, List.append_nil])
  simpa only [branchIf_next_getD, goesTo_ite_iff, List.append_nil] using hcompletes

/-- Settles O40: the nine are `branchIf` of one condition on the flags each. -/
theorem relativeBranches : Obligations.RelativeBranches := by
  unfold Obligations.RelativeBranches
  refine ⟨?bpl, ?bmi, ?bvc, ?bvs, ?bcc, ?bcs, ?bne, ?beq, ?bra⟩ <;>
    exact branchRule_of_branchIf (fun _ => rfl) rfl (fun _ => rfl) (fun _ => rfl)

end Sys2Proof.Machine
end

section
/-! PROOFS, family other. O43: the pushes (rules R220 to R223). -/

namespace Sys2Proof.Machine

theorem push_sp (v : Byte) (s : State) : (push v s).sp = BitVec.ofNat 8 (s.sp.toNat + 255) := by
  apply BitVec.eq_of_toNat_eq
  rw [push_sp_toNat, BitVec.toNat_ofNat]

/-- A push rule from a behaviour that is `Push`, with no result byte. -/
theorem pushRule_of_push {i : Instr} {value : State → Byte}
    (hb : behaviourOf i.mnemonic i.operand = some fun s => .plain (push (value s) s)) : PushRule i i.opcode value := by
  refine ⟨rfl, fun s => ?_⟩
  have hexec := exec_of_behaviourOf hb s
  rw [runOpcode_eq] at hexec
  exact ⟨_, hexec, push_storesByte _ s, push_sp _ s, rfl, rfl, rfl, rfl, rfl, ⟨rfl, rfl⟩, push_bus _ s⟩

/-- Settles O43: the four are `Push` of a register or of the packed status. -/
theorem pushInstructions : Obligations.PushInstructions := by
  unfold Obligations.PushInstructions
  simp only [← pack_eq_statusByte]
  refine ⟨?pha, ?phx, ?phy, ?php⟩ <;> exact pushRule_of_push rfl

end Sys2Proof.Machine
end

section
/-! PROOFS, family other. O46, O48, O49 and O50: the entry sequence and its return (rules R236, R261 to R265). -/

namespace Sys2Proof.Machine

/-! ### The three slots of the entry sequence -/

theorem sub_one_sub_one (sp : Byte) : sp - 1#8 - 1#8 = sp - 2#8 := by bv_omega

theorem sub_one_sub_one_sub_one (sp : Byte) : sp - 1#8 - 1#8 - 1#8 = sp - 3#8 := by bv_omega

theorem stackSlot_two (s : State) : stackSlot 2 s = stackAddress (s.sp - 2#8) := stackSlot_eq (by decide) s

theorem stackSlot_zero_ne_two (s : State) : stackSlot 0 s ≠ stackSlot 2 s := by
  rw [stackSlot_zero, stackSlot_two, ne_eq, stackAddress_inj]
  bv_omega

theorem stackSlot_one_ne_two (s : State) : stackSlot 1 s ≠ stackSlot 2 s := by
  rw [stackSlot_one, stackSlot_two, ne_eq, stackAddress_inj]
  bv_omega

/-- What the entry sequence does, with its slots and its status byte on numbers (rule R261). -/
theorem interruptEntry_eq_slots (target : Address) (brk : Bool) (s : State) :
    interruptEntry target brk s = { s with
      pc := target
      sp := s.sp - 3#8
      flags := { s.flags with i := true, d := false }
      depth := s.depth + 1
      mem := ((s.mem.write (stackSlot 0 s) (hiByte s.pc)).write (stackSlot 1 s) (loByte s.pc)).write (stackSlot 2 s)
        (statusByte brk s.flags)
      bus := s.bus ++ entryWrites s.pc brk s } := by
  rw [interruptEntry_eq, sub_one_sub_one_sub_one, sub_one_sub_one, ← stackSlot_zero, ← stackSlot_one, ← stackSlot_two,
    pack_eq_statusByte, entryWrites]

theorem peek_interruptEntry (target : Address) (brk : Bool) (s : State) (b : Address) :
    (interruptEntry target brk s).peek b =
      if b = stackSlot 2 s then statusByte brk s.flags
      else if b = stackSlot 1 s then loByte s.pc
      else if b = stackSlot 0 s then hiByte s.pc else s.peek b := by
  rw [interruptEntry_eq_slots]
  simp only [State.peek, Memory.read_write]

theorem entersFrom_interruptEntry (target : Address) (brk : Bool) (s : State) :
    EntersFrom s.pc brk s (interruptEntry target brk s) := by
  refine ⟨?high, ?low, ?status, ?others, ?sp, ?rest⟩
  case high =>
    rw [peek_interruptEntry, if_neg (stackSlot_zero_ne_two s), if_neg (stackSlot_zero_ne_one s), if_pos rfl]
  case low => rw [peek_interruptEntry, if_neg (stackSlot_one_ne_two s), if_pos rfl]
  case status => rw [peek_interruptEntry, if_pos rfl]
  case others =>
    intro b h0 h1 h2
    rw [peek_interruptEntry, if_neg h2, if_neg h1, if_neg h0]
  case sp =>
    rw [interruptEntry_eq_slots, ofNat_toNat_add]
    exact BitVec.sub_eq_add_neg ..
  case rest =>
    rw [interruptEntry_eq_slots]
    exact ⟨rfl, rfl, rfl, rfl, rfl⟩

/-- Settles O49: `InterruptAt` is the entry sequence to its target, over an empty record of the bus. -/
theorem interruptAtEntersTarget : Obligations.InterruptAtEntersTarget := by
  unfold Obligations.InterruptAtEntersTarget
  intro target brk s
  refine ⟨entersFrom_interruptEntry target brk s.clearBus, ?_⟩
  rw [interruptAt, interruptEntry_eq_slots]
  exact ⟨rfl, rfl, rfl⟩

/-- An interrupt taken through a vector is `InterruptAt` the word there, after the two reads of the vector (D12). -/
theorem interruptThrough_clearBus (vector : Address) (s : State) :
    interruptThrough vector s.clearBus =
      { interruptAt (s.peek16 vector) false s with bus := wordReads vector s ++ entryWrites s.pc false s } := by
  rw [interruptThrough, read16_eq, interruptAt, interruptEntry_eq_slots, interruptEntry_eq_slots]
  rfl

/-- Settles O50, by the branches of `interrupt`; those taken are entries through a vector. -/
theorem interruptRequests : Obligations.InterruptRequests := by
  unfold Obligations.InterruptRequests
  refine fun s => ⟨fun hmasked => ?_, fun hopen => ?_, ?_⟩
  · rw [interrupt, if_neg Bool.false_ne_true, if_pos hmasked]
    rfl
  · rw [interrupt, if_neg Bool.false_ne_true, hopen, if_neg Bool.false_ne_true]
    exact interruptThrough_clearBus _ s
  · rw [interrupt, if_pos rfl]
    exact interruptThrough_clearBus _ s

/-! ### `BRK` and `RTI` -/

/-- The state in which `BRK` takes the entry sequence: past its padding byte, with the vector read. -/
def State.atBrkEntry (s : State) : State :=
  { s with pc := s.pc + 2#16, bus := s.bus ++ wordReads 0xFFFE#16 s }

theorem softwareInterrupt_eq (s : State) : softwareInterrupt s =
    .jump (interruptEntry (s.peek16 0xFFFE#16) true s.atBrkEntry) (s.peek16 0xFFFE#16) := by
  rw [softwareInterrupt, read16_eq]
  rfl

/-- `BRK` in a state: the entry sequence with the Break bit, to the word at the vector. -/
theorem exec_brk (s : State) : exec .brk s = .next
    { interruptEntry (s.peek16 0xFFFE#16) true s.atBrkEntry with pc := s.peek16 0xFFFE#16, cyc := s.cyc + 7#64 } := by
  have hb : behaviourOf Instr.brk.mnemonic Instr.brk.operand = some fun s =>
      .jump (interruptEntry (s.peek16 0xFFFE#16) true s.atBrkEntry) (s.peek16 0xFFFE#16) :=
    congrArg some (funext softwareInterrupt_eq)
  rw [exec_of_jump hb, cyc_interruptEntry]
  rfl

/-- Settles O46: `BRK` is the entry sequence from past its padding byte, after the reads of the vector. -/
theorem brkTakesTheSoftwareInterrupt : Obligations.BrkTakesTheSoftwareInterrupt := by
  unfold Obligations.BrkTakesTheSoftwareInterrupt
  refine ⟨rfl, fun s => ⟨_, exec_brk s, ?_⟩⟩
  rw [ofNat_toNat_add]
  dsimp only
  refine ⟨entersFrom_interruptEntry (s.peek16 0xFFFE#16) true s.atBrkEntry, rfl, rfl, ?_⟩
  rw [interruptEntry_eq_slots]
  rfl

/-- Three pushes below a stack pointer, the slot `k` above is the slot `3 - k` below where they began. -/
theorem slotAbove_of_entered {s t : State} (hsp : t.sp = BitVec.ofNat 8 (s.sp.toNat + 253)) {k : Nat} (hk : k ≤ 3) :
    BitVec.ofNat 16 (0x0100 + (t.sp.toNat + k) % 256) = stackSlot (3 - k) s := by
  rw [hsp, stackSlot, BitVec.toNat_ofNat]
  congr 2
  omega

/-- `RTI` undoes every entry: it pulls the status and the address the entry pushed (rules R109, R265). -/
theorem exec_rti_of_entersFrom {ret : Address} {brk : Bool} {s t : State} (h : EntersFrom ret brk s t) :
    ∃ u, exec .rti t = .next u ∧ u.pc = ret ∧ u.flags = s.flags ∧ u.sp = s.sp ∧ u.depth = s.depth ∧
      u.a = s.a ∧ u.x = s.x ∧ u.y = s.y ∧ u.cyc = t.cyc + 6#64 := by
  obtain ⟨hhigh, hlow, hstatus, -, hsp, -, hdepth, ha, hx, hy⟩ := h
  obtain ⟨u, hexec, hflags, hpc, hsp', hdepth', hcyc, ha', hx', hy', -, -⟩ := rtiRestoresStatusAndPc.2 t
  refine ⟨u, hexec, hpc.trans ?pc, hflags.trans ?flags, hsp'.trans ?sp, hdepth'.trans ?depth, ha'.trans ha,
    hx'.trans hx, hy'.trans hy, hcyc⟩
  case pc =>
    have hword : stackedWord 2 t = wordOf (t.peek (stackSlot 0 s)) (t.peek (stackSlot 1 s)) := by
      rw [stackedWord, slotAbove_of_entered hsp (by decide), Nat.add_assoc, slotAbove_of_entered hsp (by decide)]
    rw [hword, hhigh, hlow, wordOf_hi_lo]
  case flags =>
    rw [slotAbove_of_entered hsp (by decide), hstatus, ← pack_eq_statusByte, ← unpack_eq_statusFlags, unpack_pack]
  case sp =>
    rw [hsp, ofNat_toNat_add, ofNat_toNat_add, BitVec.add_assoc]
    exact BitVec.add_zero s.sp
  case depth => rw [hdepth, Int.add_sub_cancel]

/-- Settles O48: both leave the stack of an entry, from which `RTI` takes back all that the entry saved. -/
theorem returnUndoesEntry : Obligations.ReturnUndoesEntry := by
  unfold Obligations.ReturnUndoesEntry
  constructor
  · intro s t hbrk
    obtain ⟨t', hbrk', henters, -, hcyc, -⟩ := brkTakesTheSoftwareInterrupt.2 s
    obtain rfl : t' = t := Host.Outcome.next.inj (hbrk'.symm.trans hbrk)
    obtain ⟨u, hrti, hpc, hflags, hsp, hdepth, ha, hx, hy, hcyc'⟩ := exec_rti_of_entersFrom henters
    refine ⟨u, hrti, hpc.trans (ofNat_toNat_add ..), hflags, hsp, hdepth, ha, hx, hy, ?_⟩
    rw [hcyc', hcyc, BitVec.add_assoc]
    rfl
  · intro target brk s
    obtain ⟨u, hrti, hpc, hflags, hsp, hdepth, ha, hx, hy, -⟩ :=
      exec_rti_of_entersFrom (interruptAtEntersTarget target brk s).1
    exact ⟨u, hrti, hpc, hflags, hsp, hdepth, ha, hx, hy⟩

end Sys2Proof.Machine
end

section
/-! PROOFS, family other. O51 and O52: `Reset()` (rules R38, R290, R291). -/

namespace Sys2Proof.Machine

/-- Settles O51: `resetWith` sets every field, from `CYC` and memory alone. -/
theorem resetEstablishesInitialState : Obligations.ResetEstablishesInitialState := by
  unfold Obligations.ResetEstablishesInitialState
  exact fun _ s => ⟨resetWith s.cyc s.mem, rfl, rfl, rfl, rfl, rfl, rfl, rfl, rfl, rfl, rfl, rfl⟩

/-- Settles O52: the phase `constructed` has no register values, so it accepts `Reset()` alone, which is `resetWith` from
`CYC = 0`. -/
theorem firstResetMakesTheInstanceRun : Obligations.FirstResetMakesTheInstanceRun := by
  unfold Obligations.FirstResetMakesTheInstanceRun
  refine fun _ mem => ⟨rfl, fun _ => rfl, fun _ _ => rfl, resetWith 0#64 mem, rfl, rfl, rfl, rfl, rfl, rfl, rfl, rfl, rfl,
    rfl, rfl, ?_⟩
  rintro rfl
  rfl

end Sys2Proof.Machine
end

section
/-! PROOFS, family other. O57 and O58: the writers of the flags, the registers and memory (rules R21 to R32, R35, R99). -/

namespace Sys2Proof.Machine

/-! ### The flags a behaviour writes itself -/

/-- From `f` to `g`, the behaviour of `mn` writes only the flags it names itself: step 4 of rule R120 is apart. -/
structure ExplicitFlags (mn : Mnemonic) (f g : Flags) : Prop where
  n : g.n = f.n ∨ mn ∈ [Mnemonic.plp, .rti]
  v : g.v = f.v ∨ mn ∈ [Mnemonic.adc, .sbc, .bit, .clv, .plp, .rti]
  d : g.d = f.d ∨ mn ∈ [Mnemonic.sed, .cld, .plp, .rti, .brk]
  i : g.i = f.i ∨ mn ∈ [Mnemonic.sei, .cli, .plp, .rti, .brk]
  z : g.z = f.z ∨ mn ∈ [Mnemonic.bit, .tsb, .trb, .plp, .rti]
  c : g.c = f.c ∨ mn ∈ [Mnemonic.adc, .sbc, .cmp, .cpx, .cpy, .asl, .rol, .lsr, .ror, .sec, .clc, .plp, .rti]

theorem explicitFlags_of_eq {mn : Mnemonic} {f g : Flags} (h : g = f) : ExplicitFlags mn f g := by
  subst h
  exact ⟨.inl rfl, .inl rfl, .inl rfl, .inl rfl, .inl rfl, .inl rfl⟩

/-- The reads of an operand and of its pointer write no flag. -/
theorem explicitFlags_of_readOperand {mn : Mnemonic} {m : MemOperand} {s : State} {g : Flags}
    (h : ExplicitFlags mn (readOperand m s).2.flags g) : ExplicitFlags mn s.flags g := by
  rwa [readOperand_eq] at h

theorem explicitFlags_of_effectiveAddress {mn : Mnemonic} {m : MemOperand} {s : State} {g : Flags}
    (h : ExplicitFlags mn (effectiveAddress m s).2.flags g) : ExplicitFlags mn s.flags g := by
  rwa [effectiveAddress_eq] at h

theorem explicitFlags_branchIf {mn : Mnemonic} (cond : Bool) (off : Byte) (s : State) :
    ExplicitFlags mn s.flags (branchIf cond off s).state.flags :=
  explicitFlags_of_eq (congrArg State.flags (branchIf_state cond off s))

theorem explicitFlags_branchOnBit {mn : Mnemonic} (n : Fin 8) (bit : Bool) (zz off : Byte) (s : State) :
    ExplicitFlags mn s.flags (branchOnBit n bit zz off s).state.flags :=
  explicitFlags_of_eq (by rw [branchOnBit_state])

/-- Every behaviour writes only the flags listed for its mnemonic, before the generic rule. -/
theorem explicitFlags_of_behaviourOf {mn : Mnemonic} {o : Option Operand} {b : State → Executed}
    (h : behaviourOf mn o = some b) (s : State) : ExplicitFlags mn s.flags (b s).state.flags := by
  cases mn with
  | lda | ldx | ldy | and | ora | eor =>
    obtain ⟨m, rfl, rfl⟩ := onMem_eq_some h
    exact explicitFlags_of_readOperand (m := m) (explicitFlags_of_eq rfl)
  | adc | sbc =>
    obtain ⟨m, rfl, rfl⟩ := onMem_eq_some h
    exact explicitFlags_of_readOperand (m := m)
      ⟨.inl rfl, .inr (by decide), .inl rfl, .inl rfl, .inl rfl, .inr (by decide)⟩
  | cmp | cpx | cpy =>
    obtain ⟨m, rfl, rfl⟩ := onMem_eq_some h
    exact explicitFlags_of_readOperand (m := m)
      ⟨.inl rfl, .inl rfl, .inl rfl, .inl rfl, .inl rfl, .inr (by decide)⟩
  | bit =>
    obtain ⟨m, rfl, rfl⟩ := onMem_eq_some h
    refine explicitFlags_of_readOperand (m := m)
      ⟨.inl ?_, .inr (by decide), .inl ?_, .inl ?_, .inr (by decide), .inl ?_⟩ <;> cases m <;> rfl
  | sta | stx | sty | stz | rmb n | smb n | jmp =>
    obtain ⟨m, rfl, rfl⟩ := onMem_eq_some h
    exact explicitFlags_of_effectiveAddress (m := m) (explicitFlags_of_eq rfl)
  | jsr =>
    obtain ⟨m, rfl, rfl⟩ := onMem_eq_some h
    rw [callSubroutine_eq]
    exact explicitFlags_of_eq rfl
  | tsb | trb =>
    obtain ⟨m, rfl, rfl⟩ := onMem_eq_some h
    exact explicitFlags_of_effectiveAddress (m := m)
      ⟨.inl rfl, .inl rfl, .inl rfl, .inl rfl, .inr (by decide), .inl rfl⟩
  | inc | dec =>
    obtain ⟨rfl, rfl⟩ | ⟨m, rfl, rfl⟩ := onAccOrMem_eq_some h
    · exact explicitFlags_of_eq rfl
    · exact explicitFlags_of_effectiveAddress (m := m) (explicitFlags_of_eq rfl)
  | asl | lsr | rol | ror =>
    obtain ⟨rfl, rfl⟩ | ⟨m, rfl, rfl⟩ := onAccOrMem_eq_some h
    · exact ⟨.inl rfl, .inl rfl, .inl rfl, .inl rfl, .inl rfl, .inr (by decide)⟩
    · exact explicitFlags_of_effectiveAddress (m := m)
        ⟨.inl rfl, .inl rfl, .inl rfl, .inl rfl, .inl rfl, .inr (by decide)⟩
  | tax | tay | txa | tya | tsx | txs | inx | iny | dex | dey | nop | pha | phx | phy | php | pla | plx | ply | rts =>
    obtain ⟨rfl, rfl⟩ := onImplied_eq_some h
    exact explicitFlags_of_eq rfl
  | clc | sec =>
    obtain ⟨rfl, rfl⟩ := onImplied_eq_some h
    exact ⟨.inl rfl, .inl rfl, .inl rfl, .inl rfl, .inl rfl, .inr (by decide)⟩
  | cli | sei =>
    obtain ⟨rfl, rfl⟩ := onImplied_eq_some h
    exact ⟨.inl rfl, .inl rfl, .inl rfl, .inr (by decide), .inl rfl, .inl rfl⟩
  | cld | sed =>
    obtain ⟨rfl, rfl⟩ := onImplied_eq_some h
    exact ⟨.inl rfl, .inl rfl, .inr (by decide), .inl rfl, .inl rfl, .inl rfl⟩
  | clv =>
    obtain ⟨rfl, rfl⟩ := onImplied_eq_some h
    exact ⟨.inl rfl, .inr (by decide), .inl rfl, .inl rfl, .inl rfl, .inl rfl⟩
  | brk =>
    obtain ⟨rfl, rfl⟩ := onImplied_eq_some h
    rw [softwareInterrupt_eq, interruptEntry_eq]
    exact ⟨.inl rfl, .inl rfl, .inr (by decide), .inr (by decide), .inl rfl, .inl rfl⟩
  | plp | rti =>
    obtain ⟨rfl, rfl⟩ := onImplied_eq_some h
    constructor <;> exact .inr (by decide)
  | bpl | bmi | bvc | bvs | bcc | bcs | bne | beq | bra =>
    obtain ⟨off, rfl, rfl⟩ := onRelative_eq_some h
    exact explicitFlags_branchIf _ off s
  | bbr n | bbs n =>
    obtain ⟨zz, off, rfl, rfl⟩ := onBit_eq_some h
    exact explicitFlags_branchOnBit n _ zz off s
  | undefined => cases h

/-! ### Step 4 of rule R120 -/

theorem flags_of_runOpcode {op : Byte} {b : State → Executed} {s t : State} (h : runOpcode op b s = .next t) :
    t.flags = (genericFlags (descriptor op).flagMask (b s).result (b s).state).flags := by
  cases h
  rfl

/-- The generic rule writes `N` under a mask that is not empty, `Z` under the mask `NZ`, and no other flag (rule R110). -/
theorem flags_genericFlags (mask : FlagMask) (r : Option Byte) (s : State) :
    ∃ n z, (genericFlags mask r s).flags = { s.flags with n := n, z := z } ∧
      (n = s.flags.n ∨ mask ≠ .none) ∧ (z = s.flags.z ∨ mask = .nz) := by
  cases r with
  | none => exact ⟨s.flags.n, s.flags.z, rfl, .inl rfl, .inl rfl⟩
  | some v =>
    cases mask with
    | nz => exact ⟨_, _, rfl, .inr nofun, .inr rfl⟩
    | n => exact ⟨_, s.flags.z, rfl, .inr nofun, .inl rfl⟩
    | none => exact ⟨s.flags.n, s.flags.z, rfl, .inl rfl, .inl rfl⟩

/-- The generic rule is on for the mnemonics of rule R66 alone. -/
theorem mem_of_flagMask_ne_none {op : Byte} (h : (descriptor op).flagMask ≠ .none) :
    (descriptor op).mnemonic ∈ nzMnemonics ++ [.bit] := by
  by_contra hmem
  exact h ((descriptor_flagMask op).trans (flagMaskOf_of_not_mem hmem _))

theorem mem_of_flagMask_nz {op : Byte} (h : (descriptor op).flagMask = .nz) :
    (descriptor op).mnemonic ∈ nzMnemonics := by
  by_contra hmem
  rw [descriptor_flagMask, flagMaskOf, if_neg hmem] at h
  split at h
  · split at h <;> cases h
  · cases h

/-- `BIT` immediate writes neither `N` nor `V` (D16). -/
theorem flags_of_bit_imm {i : Instr} {s t : State} (hop : i.opcode = 0x89#8) (h : exec i s = .next t) :
    t.flags.n = s.flags.n ∧ t.flags.v = s.flags.v := by
  have hbit : i.mnemonic = .bit := by
    rw [Instr.mnemonic, Instr.descriptor, hop]
    rfl
  obtain ⟨m, -, hexec⟩ := exec_bit hbit s
  cases hexec.symm.trans h
  rw [if_pos hop]
  exact ⟨rfl, rfl⟩

/-- Settles O57: a flag that differs afterwards was written by the behaviour of the mnemonic or by the generic rule, whose
mask is that of the mnemonic; the one opcode apart is `BIT` immediate. -/
theorem onlyTheirWritersChangeFlags : Obligations.OnlyTheirWritersChangeFlags := by
  unfold Obligations.OnlyTheirWritersChangeFlags
  intro i s t h
  obtain ⟨b, hb, hrun⟩ | ⟨-, hfault⟩ := exec_cases i s
  · obtain ⟨hn, hv, hd, hi, hz, hc⟩ := explicitFlags_of_behaviourOf hb s
    obtain ⟨n, z, hflags, hn', hz'⟩ := flags_genericFlags (descriptor i.opcode).flagMask (b s).result (b s).state
    rw [← flags_of_runOpcode (hrun.symm.trans h)] at hflags
    have hbit : i.opcode = 0x89#8 → t.flags.n = s.flags.n ∧ t.flags.v = s.flags.v := fun hop => flags_of_bit_imm hop h
    refine ⟨fun hne => ⟨?_, fun hop => hne (hbit hop).1⟩, fun hne => ⟨?_, fun hop => hne (hbit hop).2⟩, fun hne => ?_,
      fun hne => ?_, fun hne => ?_, fun hne => ?_⟩
    · obtain hsame | hwriter := hn
      · obtain hkept | hmask := hn'
        · exact absurd ((congrArg Flags.n hflags).trans (hkept.trans hsame)) hne
        · exact List.mem_append_left [Mnemonic.plp, .rti] (mem_of_flagMask_ne_none hmask)
      · exact List.mem_append_right (nzMnemonics ++ [.bit]) hwriter
    · exact hv.resolve_left fun h => hne ((congrArg Flags.v hflags).trans h)
    · exact hd.resolve_left fun h => hne ((congrArg Flags.d hflags).trans h)
    · exact hi.resolve_left fun h => hne ((congrArg Flags.i hflags).trans h)
    · obtain hsame | hwriter := hz
      · obtain hkept | hmask := hz'
        · exact absurd ((congrArg Flags.z hflags).trans (hkept.trans hsame)) hne
        · exact List.mem_append_left _ (mem_of_flagMask_nz hmask)
      · exact List.mem_append_right nzMnemonics hwriter
    · exact hc.resolve_left fun h => hne ((congrArg Flags.c hflags).trans h)
  · cases hfault.symm.trans h

/-! ### Registers and memory -/

/-- The mnemonics that write memory, but for the bit instructions `RMBn` and `SMBn` (rule R99). -/
def memoryWriters : List Mnemonic :=
  [.sta, .stx, .sty, .stz, .inc, .dec, .asl, .lsr, .rol, .ror, .tsb, .trb, .pha, .php, .phx, .phy, .jsr, .brk]

/-- From `s` to `t`, the behaviour of `mn` writes only the registers and the memory that are named for it. -/
structure WritesAsListed (mn : Mnemonic) (s t : State) : Prop where
  a : t.a = s.a ∨ mn ∈ [Mnemonic.adc, .sbc, .and, .ora, .eor, .asl, .lsr, .rol, .ror, .inc, .dec, .lda, .pla, .txa, .tya]
  x : t.x = s.x ∨ mn ∈ [Mnemonic.ldx, .plx, .tax, .tsx, .inx, .dex]
  y : t.y = s.y ∨ mn ∈ [Mnemonic.ldy, .ply, .tay, .iny, .dey]
  sp : t.sp = s.sp ∨
    mn ∈ [Mnemonic.pha, .php, .phx, .phy, .pla, .plp, .plx, .ply, .jsr, .rts, .rti, .brk, .txs]
  depth : t.depth = s.depth ∨ mn ∈ [Mnemonic.jsr, .brk, .rts, .rti]
  mem : SameBytes s t ∨ mn ∈ memoryWriters ∨ ∃ n, mn = .rmb n ∨ mn = .smb n

theorem writesAsListed_of_eq {mn : Mnemonic} {s t : State} (ha : t.a = s.a) (hx : t.x = s.x) (hy : t.y = s.y)
    (hsp : t.sp = s.sp) (hdepth : t.depth = s.depth) (hmem : t.mem = s.mem) : WritesAsListed mn s t :=
  ⟨.inl ha, .inl hx, .inl hy, .inl hsp, .inl hdepth, .inl fun b => congrArg (Memory.read · b) hmem⟩

/-- The reads of an operand and of its pointer write no register and no memory. -/
theorem writesAsListed_of_readOperand {mn : Mnemonic} {m : MemOperand} {s t : State}
    (h : WritesAsListed mn (readOperand m s).2 t) : WritesAsListed mn s t := by
  rw [readOperand_eq] at h
  exact ⟨h.a, h.x, h.y, h.sp, h.depth, h.mem⟩

theorem writesAsListed_of_effectiveAddress {mn : Mnemonic} {m : MemOperand} {s t : State}
    (h : WritesAsListed mn (effectiveAddress m s).2 t) : WritesAsListed mn s t := by
  rw [effectiveAddress_eq] at h
  exact ⟨h.a, h.x, h.y, h.sp, h.depth, h.mem⟩

theorem writesAsListed_branchIf {mn : Mnemonic} (cond : Bool) (off : Byte) (s : State) :
    WritesAsListed mn s (branchIf cond off s).state := by
  rw [branchIf_state]
  exact writesAsListed_of_eq rfl rfl rfl rfl rfl rfl

theorem writesAsListed_branchOnBit {mn : Mnemonic} (n : Fin 8) (bit : Bool) (zz off : Byte) (s : State) :
    WritesAsListed mn s (branchOnBit n bit zz off s).state := by
  rw [branchOnBit_state]
  exact writesAsListed_of_eq rfl rfl rfl rfl rfl rfl

section

variable {mn : Mnemonic} {m : MemOperand} {s : State} (h : mn ∈ memoryWriters ∨ ∃ n, mn = .rmb n ∨ mn = .smb n)

include h

theorem writesAsListed_storeByte (v : Byte) : WritesAsListed mn s (storeByte v m s).state := by
  rw [storeByte_eq]
  exact ⟨.inl rfl, .inl rfl, .inl rfl, .inl rfl, .inl rfl, .inr h⟩

theorem writesAsListed_modifiedByte (value : Byte → Byte) (flags : Byte → Flags) :
    WritesAsListed mn s (modifiedByte value flags m s) :=
  ⟨.inl rfl, .inl rfl, .inl rfl, .inl rfl, .inl rfl, .inr h⟩

theorem writesAsListed_testAndWrite (op : Byte → Byte → Byte) : WritesAsListed mn s (testAndWrite op m s).state := by
  simp only [testAndWrite_eq, Executed.plain]
  exact writesAsListed_modifiedByte h _ _

theorem writesAsListed_modifyByte (f : Byte → Byte) : WritesAsListed mn s (modifyByte f m s).state := by
  simp only [modifyByte_eq, Executed.plain]
  exact writesAsListed_modifiedByte h _ _

theorem writesAsListed_stepMem (f : Byte → Byte) : WritesAsListed mn s (stepMem f m s).state := by
  simp only [stepMem_eq, Executed.withResult]
  exact writesAsListed_modifiedByte h _ _

theorem writesAsListed_shiftMem (f : Byte → Bool → ShiftResult) : WritesAsListed mn s (shiftMem f m s).state := by
  simp only [shiftMem_eq, Executed.withResult]
  exact writesAsListed_modifiedByte h _ _

end

/-- The behaviours on an operand with an effective address. -/
theorem writesAsListed_of_behaviourOf_mem {mn : Mnemonic} {m : MemOperand} {b : State → Executed}
    (h : behaviourOf mn (some (.mem m)) = some b) (s : State) : WritesAsListed mn s (b s).state := by
  cases mn with
  | lda | adc | sbc | and | ora | eor =>
    cases h
    exact writesAsListed_of_readOperand (m := m)
      ⟨.inr (by decide), .inl rfl, .inl rfl, .inl rfl, .inl rfl, .inl fun _ => rfl⟩
  | ldx =>
    cases h
    exact writesAsListed_of_readOperand (m := m)
      ⟨.inl rfl, .inr (by decide), .inl rfl, .inl rfl, .inl rfl, .inl fun _ => rfl⟩
  | ldy =>
    cases h
    exact writesAsListed_of_readOperand (m := m)
      ⟨.inl rfl, .inl rfl, .inr (by decide), .inl rfl, .inl rfl, .inl fun _ => rfl⟩
  | cmp | cpx | cpy =>
    cases h
    exact writesAsListed_of_readOperand (m := m) (writesAsListed_of_eq rfl rfl rfl rfl rfl rfl)
  | bit =>
    cases h
    refine writesAsListed_of_readOperand (m := m) (writesAsListed_of_eq ?_ ?_ ?_ ?_ ?_ ?_) <;> cases m <;> rfl
  | jmp =>
    cases h
    exact writesAsListed_of_effectiveAddress (m := m) (writesAsListed_of_eq rfl rfl rfl rfl rfl rfl)
  | jsr =>
    cases h
    rw [callSubroutine_eq]
    exact ⟨.inl rfl, .inl rfl, .inl rfl, .inr (by decide), .inr (by decide), .inr (.inl (by decide))⟩
  | sta | stx | sty | stz =>
    cases h
    exact writesAsListed_storeByte (.inl (by decide)) _
  | tsb | trb =>
    cases h
    exact writesAsListed_testAndWrite (.inl (by decide)) _
  | inc | dec =>
    cases h
    exact writesAsListed_stepMem (.inl (by decide)) _
  | asl | lsr | rol | ror =>
    cases h
    exact writesAsListed_shiftMem (.inl (by decide)) _
  | rmb n =>
    cases h
    exact writesAsListed_modifyByte (.inr ⟨n, .inl rfl⟩) _
  | smb n =>
    cases h
    exact writesAsListed_modifyByte (.inr ⟨n, .inr rfl⟩) _
  | _ => cases h

/-- The behaviours that take no operand. -/
theorem writesAsListed_of_behaviourOf_imp {mn : Mnemonic} {b : State → Executed}
    (h : behaviourOf mn (some .imp) = some b) (s : State) : WritesAsListed mn s (b s).state := by
  cases mn with
  | clc | sec | cli | sei | cld | sed | clv | nop =>
    cases h
    exact writesAsListed_of_eq rfl rfl rfl rfl rfl rfl
  | txa | tya =>
    cases h
    exact ⟨.inr (by decide), .inl rfl, .inl rfl, .inl rfl, .inl rfl, .inl fun _ => rfl⟩
  | tax | tsx | inx | dex =>
    cases h
    exact ⟨.inl rfl, .inr (by decide), .inl rfl, .inl rfl, .inl rfl, .inl fun _ => rfl⟩
  | tay | iny | dey =>
    cases h
    exact ⟨.inl rfl, .inl rfl, .inr (by decide), .inl rfl, .inl rfl, .inl fun _ => rfl⟩
  | txs | plp =>
    cases h
    exact ⟨.inl rfl, .inl rfl, .inl rfl, .inr (by decide), .inl rfl, .inl fun _ => rfl⟩
  | pla =>
    cases h
    exact ⟨.inr (by decide), .inl rfl, .inl rfl, .inr (by decide), .inl rfl, .inl fun _ => rfl⟩
  | plx =>
    cases h
    exact ⟨.inl rfl, .inr (by decide), .inl rfl, .inr (by decide), .inl rfl, .inl fun _ => rfl⟩
  | ply =>
    cases h
    exact ⟨.inl rfl, .inl rfl, .inr (by decide), .inr (by decide), .inl rfl, .inl fun _ => rfl⟩
  | pha | phx | phy | php =>
    cases h
    exact ⟨.inl rfl, .inl rfl, .inl rfl, .inr (by decide), .inl rfl, .inr (.inl (by decide))⟩
  | rts =>
    cases h
    simp only [returnFromSubroutine, pull16_snd]
    exact ⟨.inl rfl, .inl rfl, .inl rfl, .inr (by decide), .inr (by decide), .inl fun _ => rfl⟩
  | rti =>
    cases h
    simp only [interruptReturn, returnFromInterrupt_snd]
    exact ⟨.inl rfl, .inl rfl, .inl rfl, .inr (by decide), .inr (by decide), .inl fun _ => rfl⟩
  | brk =>
    cases h
    rw [softwareInterrupt_eq, interruptEntry_eq]
    exact ⟨.inl rfl, .inl rfl, .inl rfl, .inr (by decide), .inr (by decide), .inr (.inl (by decide))⟩
  | _ => cases h

/-- Every behaviour writes only the registers and memory listed for its mnemonic. -/
theorem writesAsListed_of_behaviourOf {mn : Mnemonic} {o : Option Operand} {b : State → Executed}
    (h : behaviourOf mn o = some b) (s : State) : WritesAsListed mn s (b s).state := by
  match o with
  | some (.mem m) => exact writesAsListed_of_behaviourOf_mem h s
  | some .imp => exact writesAsListed_of_behaviourOf_imp h s
  | some .acc =>
    cases mn with
    | inc | dec | asl | lsr | rol | ror =>
      cases h
      exact ⟨.inr (by decide), .inl rfl, .inl rfl, .inl rfl, .inl rfl, .inl fun _ => rfl⟩
    | _ => cases h
  | some (.rel off) =>
    cases mn with
    | bpl | bmi | bvc | bvs | bcc | bcs | bne | beq | bra =>
      cases h
      exact writesAsListed_branchIf _ off s
    | _ => cases h
  | some (.zprel zz off) =>
    cases mn with
    | bbr n | bbs n =>
      cases h
      exact writesAsListed_branchOnBit n _ zz off s
    | _ => cases h
  | none => cases mn <;> cases h

/-- Settles O58: steps 4 and 5 of rule R120 write flags, `PC` and `CYC` alone, so what differs afterwards the behaviour of
the mnemonic wrote. -/
theorem onlyTheirWritersChangeRegisters : Obligations.OnlyTheirWritersChangeRegisters := by
  unfold Obligations.OnlyTheirWritersChangeRegisters
  intro i s t h
  obtain ⟨b, hb, hrun⟩ | ⟨-, hfault⟩ := exec_cases i s
  · have hlisted := writesAsListed_of_behaviourOf hb s
    rw [eq_of_runOpcode (hrun.symm.trans h)]
    exact ⟨hlisted.a.resolve_left, hlisted.x.resolve_left, hlisted.y.resolve_left, hlisted.sp.resolve_left,
      hlisted.depth.resolve_left, hlisted.mem.resolve_left⟩
  · cases hfault.symm.trans h

end Sys2Proof.Machine
end

section
/-! PROOFS, family other. O13, O14 and O15: the resolver on numbers (rules R80, R83 to R97). -/

namespace Sys2Proof.Machine

/-! ### Addresses and the bytes there, on numbers -/

theorem toNat_add_one (a : Address) : (a.toNat + 1) % 65536 = (a + 1#16).toNat := (BitVec.toNat_add a 1#16).symm

theorem toNat_add_two (a : Address) : (a.toNat + 2) % 65536 = (a + 2#16).toNat := (BitVec.toNat_add a 2#16).symm

theorem toNat_add_byte (a : Address) (v : Byte) : (a.toNat + v.toNat) % 65536 = (a + zext16 v).toNat := by
  rw [BitVec.toNat_add, zext16_toNat]

/-- Zero-page indexing wraps mod 256 (rules R85, R86). -/
theorem zeroPage_add_toNat (zz v : Byte) : (zz.toNat + v.toNat) % 256 = (zz + v).toNat := (BitVec.toNat_add zz v).symm

theorem zeroPage_succ_toNat (p : Byte) : (p.toNat + 1) % 256 = (p + 1#8).toNat := (BitVec.toNat_add p 1#8).symm

theorem byteAt_toNat (s : State) (a : Address) : byteAt s a.toNat = (s.peek a).toNat := by
  rw [byteAt, BitVec.ofNat_toNat, BitVec.setWidth_eq]

theorem byteAt_zeroPage (s : State) (p : Byte) : byteAt s p.toNat = (s.peek (zext16 p)).toNat := by
  rw [← zext16_toNat, byteAt_toNat]

theorem toNat_add_word (hi lo : Byte) : lo.toNat + 256 * hi.toNat = (wordOf hi lo).toNat := by
  rw [wordOf_toNat, Nat.add_comm]

/-- The word of the zero-page pointer `p`, whose high byte is at `p + 1` within the page (rule R42). -/
theorem zeroPageWord_toNat (s : State) (p : Byte) :
    byteAt s p.toNat + 256 * byteAt s ((p.toNat + 1) % 256) = (read16ZP p s).1.toNat := by
  rw [zeroPage_succ_toNat, byteAt_zeroPage, byteAt_zeroPage, toNat_add_word, read16ZP_eq]

theorem word_toNat (s : State) (a : Address) :
    byteAt s a.toNat + 256 * byteAt s ((a.toNat + 1) % 65536) = (read16 a s).1.toNat := by
  rw [toNat_add_one, byteAt_toNat, byteAt_toNat, toNat_add_word, read16_eq]
  rfl

/-- The operand word that follows the opcode (rule R61). -/
theorem operandWord_toNat (s : State) :
    byteAt s ((s.pc.toNat + 1) % 65536) + 256 * byteAt s ((s.pc.toNat + 2) % 65536) =
      (wordOf (s.peek (s.pc + 2#16)) (s.peek (s.pc + 1#16))).toNat := by
  rw [toNat_add_one, toNat_add_two, byteAt_toNat, byteAt_toNat, toNat_add_word]

theorem operandByte_toNat (s : State) : byteAt s ((s.pc.toNat + 1) % 65536) = (s.peek (s.pc + 1#16)).toNat := by
  rw [toNat_add_one, byteAt_toNat]

/-! ### The effective address -/

/-- The operand of a mode at the program counter. -/
def operandAt (mode : Mode) (s : State) : Operand := mode.operandOf (s.peek (s.pc + 1#16)) (s.peek (s.pc + 2#16))

theorem operand_fetch (s : State) :
    (fetch s).1.operand = (descriptor (s.peek s.pc)).mode.map fun mode => operandAt mode s := by
  rw [fetch_eq]
  exact operand_instrAt s

/-- The address of an operand does not depend on the record of the bus. -/
theorem operandAddress_fetch (m : MemOperand) (s : State) : operandAddress m (fetch s).2 = operandAddress m s := by
  rw [fetch_eq]
  cases m <;> rfl

/-- The formula of each mode on numbers is the address arithmetic of the resolver on words. -/
theorem resolvedAddress_eq {mode : Mode} {m : MemOperand} {s : State} (h : operandAt mode s = .mem m) :
    (operandAddress m s).toNat = resolvedAddress mode s := by
  cases mode with
  | imp | acc | rel | zprel => cases h
  | imm =>
    cases h
    exact (toNat_add_one s.pc).symm
  | zp =>
    cases h
    exact (zext16_toNat _).trans (operandByte_toNat s).symm
  | zpx | zpy =>
    cases h
    simp only [resolvedAddress, operandByte_toNat, zeroPage_add_toNat]
    exact zext16_toNat _
  | abs =>
    cases h
    exact (operandWord_toNat s).symm
  | absx | absy =>
    cases h
    simp only [resolvedAddress, operandWord_toNat, toNat_add_byte]
    rfl
  | ind =>
    cases h
    simp only [resolvedAddress, operandWord_toNat, word_toNat]
    rfl
  | absindx =>
    cases h
    simp only [resolvedAddress, operandWord_toNat, toNat_add_byte, word_toNat]
    rfl
  | zpind =>
    cases h
    simp only [resolvedAddress, operandByte_toNat, zeroPageWord_toNat]
    rfl
  | zpindx =>
    cases h
    simp only [resolvedAddress, operandByte_toNat, zeroPage_add_toNat, zeroPageWord_toNat]
    rfl
  | zpindy =>
    cases h
    simp only [resolvedAddress, operandByte_toNat, zeroPageWord_toNat, toNat_add_byte]
    rfl

/-- Settles O13: the fetched operand is that of the mode of the opcode, and the formula of each mode is the address
arithmetic of the resolver read as numbers. -/
theorem resolverGivesModeAddress : Obligations.ResolverGivesModeAddress := by
  unfold Obligations.ResolverGivesModeAddress
  intro s m h
  rw [operand_fetch, Option.map_eq_some_iff] at h
  obtain ⟨mode, hmode, hoperand⟩ := h
  have hm : m.mode = mode := (congrArg Operand.mode hoperand).symm.trans (Mode.mode_operandOf _ _ mode)
  rw [operandAddress_fetch, hm]
  refine ⟨hmode, resolvedAddress_eq hoperand, ?_⟩
  cases m with
  | imm nn =>
    subst hm
    cases hoperand
    rw [fetch_eq]
    rfl
  | _ =>
    rw [← operandAddress_fetch, fetch_eq]
    rfl

/-! ### Branch targets -/

/-- A branch target on integers: the offset counts with its sign, from the next instruction (rules R95, R96). -/
theorem branchTarget_toNat (len : Nat) (off : Byte) (s : State) :
    ((branchTarget len off s).toNat : Int) = ((s.pc.toNat : Int) + len + off.toInt) % 65536 := by
  rw [← relativeTarget_eq_branchTarget, relativeTarget, BitVec.toNat_ofInt]
  exact Int.toNat_of_nonneg (Int.emod_nonneg _ (by decide))

theorem branchTarget_fetch (len : Nat) (off : Byte) (s : State) :
    branchTarget len off (fetch s).2 = branchTarget len off s := by
  rw [fetch_eq]
  rfl

/-- Settles O14: the fetched operand holds the offset byte of its mode, and the target is a sum of integers mod 65536. -/
theorem resolverGivesBranchTarget : Obligations.ResolverGivesBranchTarget := by
  unfold Obligations.ResolverGivesBranchTarget
  refine ⟨fun s off h => ?_, fun s zz off h => ?_⟩ <;> rw [operand_fetch, Option.map_eq_some_iff] at h
  · obtain ⟨mode, -, hoperand⟩ := h
    cases mode with
    | rel =>
      cases hoperand
      rw [branchTarget_fetch]
      exact ⟨rfl, branchTarget_toNat ..⟩
    | _ => cases hoperand
  · obtain ⟨mode, -, hoperand⟩ := h
    cases mode with
    | zprel =>
      cases hoperand
      refine ⟨rfl, rfl, ?_, ?_⟩
      · rw [operandByte_toNat]
        exact zext16_toNat _
      · rw [branchTarget_fetch]
        exact branchTarget_toNat ..
    | _ => cases hoperand

/-! ### The reads of the fetch and the resolver -/

/-- The record of a read at an address given as a number. -/
def readAt (s : State) (n : Nat) : BusAccess := .read (BitVec.ofNat 16 n) (s.peek (BitVec.ofNat 16 n))

theorem readAt_toNat (s : State) (a : Address) : readAt s a.toNat = .read a (s.peek a) := by
  rw [readAt, BitVec.ofNat_toNat, BitVec.setWidth_eq]

theorem readAt_zeroPage (s : State) (p : Byte) : readAt s p.toNat = .read (zext16 p) (s.peek (zext16 p)) := by
  rw [← zext16_toNat, readAt_toNat]

/-- The reads of the resolver after the fetch: the pointer reads of an operand with an effective address. -/
def resolverPointerReads (s : State) : Operand → List BusAccess
  | .mem m => pointerReads m s
  | _ => []

/-- The addresses of rule R97 are those of the fetch and of the pointer reads. -/
theorem map_readAt_resolverReads {mode : Mode} {s : State} (hmode : (descriptor (s.peek s.pc)).mode = some mode) :
    (resolverReads mode s).map (readAt s) = fetchReads s ++ resolverPointerReads s (operandAt mode s) := by
  have hcount : operandByteCount (s.peek s.pc) = mode.operandBytes := by rw [operandByteCount, hmode]
  rw [fetchReads, hcount]
  cases mode <;>
    simp only [resolverReads, toNat_add_one, toNat_add_two, byteAt_toNat, toNat_add_word, zeroPage_add_toNat,
      zeroPage_succ_toNat, toNat_add_byte, List.map_cons, List.map_nil, readAt_toNat, readAt_zeroPage] <;>
    rfl

/-- Settles O15: the fetch leaves its reads on the record, the resolver the pointer reads of the mode, and the addresses
of both are those of rule R97. -/
theorem resolverReadsInOrder : Obligations.ResolverReadsInOrder := by
  unfold Obligations.ResolverReadsInOrder
  intro s mode hmode resolved read
  have hoperand : (fetch s.clearBus).1.operand = some (operandAt mode s) := by
    rw [operand_fetch]
    exact congrArg _ hmode
  change resolved = { s with bus := (resolverReads mode s).map (readAt s) }
  rw [map_readAt_resolverReads hmode]
  simp only [resolved, hoperand]
  cases operandAt mode s with
  | mem m =>
    refine (congrArg Prod.snd (effectiveAddress_eq m _)).trans ?_
    rw [fetch_eq]
    cases m <;> rfl
  | _ =>
    rw [fetch_eq]
    exact congrArg (fun bus => { s with bus := bus }) (List.append_nil _).symm

end Sys2Proof.Machine
end

section
/-! PROOFS, family other. O1, O4 and O6: the decoder table (rules R64 to R67, R70, R294), row by row. -/

namespace Sys2Proof

theorem decode_encode_nil (i : Instr) : decodeBytes (encode i) = .ok (i, []) := by
  rw [← List.append_nil (encode i)]
  exact decodeInvertsEncode i []

/-- Settles O1: each string is the encoding of the instruction beside it, so O2 decodes it. -/
theorem exampleWordsDecode : Obligations.ExampleWordsDecode := by
  unfold Obligations.ExampleWordsDecode
  exact ⟨decode_encode_nil .clc, decode_encode_nil .aslAcc, decode_encode_nil (.ldaImm 0x10#8),
    decode_encode_nil (.ldaZp 0x10#8), decode_encode_nil (.ldaZpx 0x10#8), decode_encode_nil (.ldxZpy 0x10#8),
    decode_encode_nil (.ldaAbs 0x1234#16), decode_encode_nil (.ldaAbsx 0x1234#16), decode_encode_nil (.ldaAbsy 0x1234#16),
    decode_encode_nil (.jmpInd 0x1234#16), decode_encode_nil (.jmpAbsindx 0x1234#16),
    decode_encode_nil (.ldaZpind 0x10#8), decode_encode_nil (.ldaZpindx 0x10#8), decode_encode_nil (.ldaZpindy 0x10#8),
    decode_encode_nil (.bne 0xFB#8), decode_encode_nil (.bbr0 0x10#8 0x02#8)⟩

namespace Machine

/-- Settles O4, by the rows of the table at the bytes each clause names. -/
theorem tableRegularities : Obligations.TableRegularities := by
  unfold Obligations.TableRegularities
  exact ⟨by decide, by decide, by decide, rfl, rfl⟩

theorem row_of_brk (op : Byte) (h : op = 0x00#8) : (descriptor op).mode = some .imp ∧ (descriptor op).length = 2 := by
  subst h
  exact ⟨rfl, rfl⟩

theorem length_of_mode : ∀ op : Byte, op ≠ 0x00#8 → ∀ m ∈ (descriptor op).mode,
    (descriptor op).length = 1 + m.operandBytes := by decide

theorem one_le_length (op : Byte) : 1 ≤ (descriptor op).length := Nat.one_le_of_lt (operandByteCount_lt_length op)

theorem baseCycles_of_mode : ∀ op : Byte, ∀ m ∈ (descriptor op).mode,
    (descriptor op).baseCycles = cyclesByMode (descriptor op).mnemonic m := by decide

theorem baseCycles_bounds : ∀ op : Byte, 1 ≤ (descriptor op).baseCycles ∧ (descriptor op).baseCycles ≤ 8 := by
  decide

/-- Settles O6, column by column over the 256 rows of the table. -/
theorem lengthsAndBaseCycles : Obligations.LengthsAndBaseCycles := by
  unfold Obligations.LengthsAndBaseCycles
  exact fun op => ⟨row_of_brk op, length_of_mode op, one_le_length op, length_le_three op, baseCycles_of_mode op,
    baseCycles_bounds op⟩

end Machine

end Sys2Proof
end
